-- ==== Sys2Proof/Word.lean ====
section
/-! DEFINITION. Words, node and channel numbers, and the two small fixed-size tables (four channels; eight sites or
counters) that the state of the Plectar FM-440 is made of. -/

namespace Sys2Proof

/-- One character of the station link (spec/00_scope.md, Physical summary). -/
abbrev Byte := BitVec 8

/-- A Time Base value: the free-running microsecond count, wrapping modulo 2^32 (00_scope.md, Conventions, Time). -/
abbrev Time := BitVec 32

/-- One sample: a signed 20-bit code (00_scope.md, Capacities and fixed numbers). -/
abbrev SampleCode := BitVec 20

/-- A channel number 0..3. -/
abbrev Chan := Fin 4

/-- A physical node number; the fixture has 0..4095. -/
abbrev Node := Nat

/-- One value for each of the four channels. -/
structure Four (α : Type) where
  c0 : α
  c1 : α
  c2 : α
  c3 : α
  deriving DecidableEq, Repr

/-- The value of one channel. -/
def Four.get {α : Type} (f : Four α) (c : Chan) : α :=
  match c with
  | 0 => f.c0
  | 1 => f.c1
  | 2 => f.c2
  | 3 => f.c3

/-- The table with the value of one channel replaced. -/
def Four.set {α : Type} (f : Four α) (c : Chan) (x : α) : Four α :=
  match c with
  | 0 => { f with c0 := x }
  | 1 => { f with c1 := x }
  | 2 => { f with c2 := x }
  | 3 => { f with c3 := x }

/-- The same value for every channel. -/
def Four.fill {α : Type} (x : α) : Four α := ⟨x, x, x, x⟩

/-- The four values, channel 0 first. -/
def Four.toList {α : Type} (f : Four α) : List α := [f.c0, f.c1, f.c2, f.c3]

/-- The four channels in ascending number. -/
def allChans : List Chan := [0, 1, 2, 3]

/-- One value for each of eight sites or eight counters. -/
structure Eight (α : Type) where
  e0 : α
  e1 : α
  e2 : α
  e3 : α
  e4 : α
  e5 : α
  e6 : α
  e7 : α
  deriving DecidableEq, Repr

/-- The value at one of the eight places. -/
def Eight.get {α : Type} (f : Eight α) (i : Fin 8) : α :=
  match i with
  | 0 => f.e0
  | 1 => f.e1
  | 2 => f.e2
  | 3 => f.e3
  | 4 => f.e4
  | 5 => f.e5
  | 6 => f.e6
  | 7 => f.e7

/-- The table with one of the eight places replaced. -/
def Eight.set {α : Type} (f : Eight α) (i : Fin 8) (x : α) : Eight α :=
  match i with
  | 0 => { f with e0 := x }
  | 1 => { f with e1 := x }
  | 2 => { f with e2 := x }
  | 3 => { f with e3 := x }
  | 4 => { f with e4 := x }
  | 5 => { f with e5 := x }
  | 6 => { f with e6 := x }
  | 7 => { f with e7 := x }

/-- The same value at every place. -/
def Eight.fill {α : Type} (x : α) : Eight α := ⟨x, x, x, x, x, x, x, x⟩

/-- The eight values, place 0 first. -/
def Eight.toList {α : Type} (f : Eight α) : List α :=
  [f.e0, f.e1, f.e2, f.e3, f.e4, f.e5, f.e6, f.e7]

/-- The eight places in ascending number. -/
def allEight : List (Fin 8) := [0, 1, 2, 3, 4, 5, 6, 7]

end Sys2Proof
end

