-- ==== Sys2Proof/Syntax.lean ====
section
/-! DEFINITION. The commands of the FM-440: one constructor for each row of spec/opcode_table.json, in the table's
order. A request row carries the TAG and the payload bytes of its frame (R177, R182); a timed, pin or sample event
carries what it concerns. -/

namespace Sys2Proof

/-- The two plan banks (R12). -/
inductive BankId where
  | a
  | b
  deriving DecidableEq, Repr

/-- The two sense inputs (R148). -/
inductive SenseLine where
  | vacOk
  | lidDown
  deriving DecidableEq, Repr

/-- The commands and events that change the part, one for each row of the table. -/
inductive Instr where
  /-- POWER_ON (R163), with the live levels of the two sense lines at that moment (true: present). -/
  | powerOn (vacOk lidDown : Bool)
  /-- RECEIVE_BYTE (R165): one character from the station link. -/
  | receiveByte (b : Byte)
  /-- GAP_TIMER_EXPIRY (R167). -/
  | gapTimerExpiry
  /-- UNKNOWN_KIND (R168): a request frame whose KIND is not in the table of R178. -/
  | unknownKind (kind tag : Byte) (payload : List Byte)
  /-- TRANSMIT_COMPLETE (R170): the last byte of the frame being sent has gone out. -/
  | transmitComplete
  /-- READ_STATUS (R175). -/
  | readStatus (tag : Byte) (payload : List Byte)
  /-- RESYNC (R169). -/
  | resync (tag : Byte) (payload : List Byte)
  /-- RESET_PART (R162). -/
  | resetPart (tag : Byte) (payload : List Byte)
  /-- SET_TIMING (R40). -/
  | setTiming (tag : Byte) (payload : List Byte)
  /-- SET_SITES (R22). -/
  | setSites (tag : Byte) (payload : List Byte)
  /-- SET_CHANNELS (R157). -/
  | setChannels (tag : Byte) (payload : List Byte)
  /-- SET_NOTICES (R174). -/
  | setNotices (tag : Byte) (payload : List Byte)
  /-- CLEAR_NOTICE (R173). -/
  | clearNotice (tag : Byte) (payload : List Byte)
  /-- SET_OUTPUTS (R161). -/
  | setOutputs (tag : Byte) (payload : List Byte)
  /-- CLEAR_INTERLOCK (R160). -/
  | clearInterlock (tag : Byte) (payload : List Byte)
  /-- LOAD_STEPS (R11). -/
  | loadSteps (tag : Byte) (payload : List Byte)
  /-- ARM_BANK (R14). -/
  | armBank (tag : Byte) (payload : List Byte)
  /-- CLEAR_BANK (R19). -/
  | clearBank (tag : Byte) (payload : List Byte)
  /-- START_RUN (R150). -/
  | startRun (tag : Byte) (payload : List Byte)
  /-- PAUSE_RUN (R76). -/
  | pauseRun (tag : Byte) (payload : List Byte)
  /-- RESUME_RUN (R77). -/
  | resumeRun (tag : Byte) (payload : List Byte)
  /-- ABORT_RUN (R155). -/
  | abortRun (tag : Byte) (payload : List Byte)
  /-- END_RUN (R156). -/
  | endRun (tag : Byte) (payload : List Byte)
  /-- RETIRE_SITE (R33). -/
  | retireSite (tag : Byte) (payload : List Byte)
  /-- READ_RESULTS (R126). -/
  | readResults (tag : Byte) (payload : List Byte)
  /-- READ_NODES (R55). -/
  | readNodes (tag : Byte) (payload : List Byte)
  /-- CLEAR_CLOSE_COUNTS (R56). -/
  | clearCloseCounts (tag : Byte) (payload : List Byte)
  /-- SET_COUNTER (R142). -/
  | setCounter (tag : Byte) (payload : List Byte)
  /-- READ_COUNTERS (R144). -/
  | readCounters (tag : Byte) (payload : List Byte)
  /-- CLEAR_OVERFLOW (R145). -/
  | clearOverflow (tag : Byte) (payload : List Byte)
  /-- FREEZE_COUNTERS (R146). -/
  | freezeCounters (tag : Byte) (payload : List Byte)
  /-- FETCH_APPEND (R27): one making of the fetch. -/
  | fetchAppend
  /-- BANK_DONE (R17): the drain of the named bank. -/
  | bankDone (bank : BankId)
  /-- OPERATE_EXPIRY (R43): the operate expiry of the named channel's close batch. -/
  | operateExpiry (ch : Chan)
  /-- RELEASE_ENTRY_EXPIRY (R48): the expiry of the oldest release-queue entry. -/
  | releaseEntryExpiry
  /-- CHANNEL_SAMPLE (R81): a sample arrives on the named channel. -/
  | channelSample (ch : Chan) (code : SampleCode)
  /-- DEADLINE_EXPIRY (R107): the sample whose charge finds both deadline counters at 0. -/
  | deadlineExpiry (ch : Chan) (code : SampleCode)
  /-- SETTLED (R106): the sample that brings dwell remaining to 0. -/
  | settled (ch : Chan) (code : SampleCode)
  /-- ACQUISITION_COMPLETE (R112): the in-band sample that completes the acquisition. -/
  | acquisitionComplete (ch : Chan) (code : SampleCode)
  /-- DWELL_COMPLETE (R89): the sample that completes a DISCHARGE dwell; its value does not matter. -/
  | dwellComplete (ch : Chan)
  /-- RUN_DONE (R151). -/
  | runDone
  /-- MONITOR_TICK (R134). -/
  | monitorTick
  /-- SENSE_LINE_CHANGE (R158): the named line takes the given level (true: present). -/
  | senseLineChange (line : SenseLine) (present : Bool)
  /-- QUALIFICATION_EXPIRY (R158). -/
  | qualificationExpiry (line : SenseLine)
  deriving DecidableEq, Repr

end Sys2Proof
end

