-- ==== Sys2Proof/Decode.lean ====
section
/-! DEFINITION. The table's decoder. spec/opcode_table.json gives no row any bits (every "fields" list is empty and no
row has a "fixed" pattern), so no word spells a command. -/

namespace Sys2Proof

/-- The command that a word spells by the table's bits: no row of the table gives bits, so there is none. -/
def decodeTableWord (_nbits _w : Nat) : Option Instr := none

end Sys2Proof
end

