-- ==== Sys2Proof/Config.lean ====
section
/-! DEFINITION. The capacities and fixed numbers of spec/00_scope.md. The spec leaves no value of any result open, so
there is no free value here. -/

namespace Sys2Proof.Config

/-- Physical nodes 0..4095. -/
def nodeCount : Nat := 4096
/-- Step records per bank (R12). -/
def bankRecords : Nat := 256
/-- Node references per bank (R12). -/
def bankReferences : Nat := 4096
/-- Instances in the dispatch window (R57). -/
def windowSize : Nat := 16
/-- Entries in the release queue (R46). -/
def releaseSlots : Nat := 8
/-- A normal post is accepted while the Result Queue holds fewer records than this (R124). -/
def normalPostLimit : Nat := 252
/-- Records in one READ_RESULTS reply (R126). -/
def maxRecordsPerReply : Nat := 32
/-- Longest frame payload (R165). -/
def maxPayload : Nat := 1024
/-- The gap limit inside a frame, in microseconds (R167). -/
def gapLimit : Nat := 100
/-- The interlock qualification time, in microseconds (R158). -/
def qualification : Nat := 2000
/-- The operate time at power-on and after RESET_PART (R39). -/
def tOpReset : Nat := 500
/-- The release time at power-on and after RESET_PART (R39). -/
def tRelReset : Nat := 300
/-- The shortest operate or release time (R39). -/
def relayTimeMin : Nat := 50
/-- The longest operate or release time (R39). -/
def relayTimeMax : Nat := 5000
/-- The cap of a node's close count (R38). -/
def closeCountMax : Nat := 16777215
/-- The cap of a site's skipped count (R21). -/
def skippedMax : Nat := 65535
/-- The cap of the link error count (R164). -/
def errorCountMax : Nat := 65535
/-- The result watermark at power-on and after RESET_PART (R129). -/
def watermarkReset : Nat := 64
/-- The part revision code (R184). -/
def revision : Byte := 0x01
/-- The clamp code at the bottom of the sample range (R109). -/
def clampLow : Int := -524288
/-- The clamp code at the top of the sample range (R109). -/
def clampHigh : Int := 524287
/-- The least reading (R120). -/
def readingMin : Int := -8388608
/-- The greatest reading (R120). -/
def readingMax : Int := 8388607

end Sys2Proof.Config
end

