-- ==== Sys2Proof/Machine/State.lean ====
section
/-! DEFINITION. The state of the FM-440: every block's state as spec/ gives it, as plain data, and the queue of
waiting commands. Each block's structure stands under the rule that lists what the block owns. -/

namespace Sys2Proof.Machine

/-! ## Names -/

/-- The three lines of a channel (R4): FORCE, RETURN, GUARD. -/
inductive Line where
  | forceLine
  | returnLine
  | guardLine
  deriving DecidableEq, Repr

/-- The site of an instance: one of the eight sites, or the whole panel (R27). -/
inductive Site where
  | board (s : Fin 8)
  | panel
  deriving DecidableEq, Repr

/-- What a step does (R2). -/
inductive StepKind where
  | measure
  | contact
  | discharge
  deriving DecidableEq, Repr

/-- What a step's node references name (R3). -/
inductive Scope where
  | site
  | common
  deriving DecidableEq, Repr

/-- The outcome of a result record (R122). -/
inductive Verdict where
  | pass
  | low
  | high
  | unsettled
  | overrange
  | aborted
  | done
  deriving DecidableEq, Repr

/-- The eight notice kinds (R171). -/
inductive Notice where
  | resultsReady
  | starved
  | siteRetired
  | bankDone
  | runDone
  | runHalted
  | counterOverflow
  | interlock
  deriving DecidableEq, Repr

/-- The status codes of a reply (R178). -/
inductive Status where
  | ok
  | state
  | range
  | full
  | nodeRange
  | nodeDup
  | scope
  | length
  | unknown
  | faulted
  | interlocked
  deriving DecidableEq, Repr

/-! ## Plan Store (chapter 1) -/

/-- A step record as a bank stores it, tuning fields clamped (R1, R10). The step index is the record's place in its
bank's list. -/
structure StepRecord where
  label : Nat
  kind : StepKind
  scope : Scope
  barrier : Bool
  hold : Bool
  group : Nat
  range : Nat
  level : Int
  force : List Nat
  ret : List Nat
  guard : List Nat
  band : Nat
  dwell : Nat
  units : Nat
  prescale : Nat
  acquireExp : Nat
  resettleLimit : Nat
  retries : Nat
  null : Int
  scale : Nat
  scaleExp : Nat
  lo : Int
  hi : Int
  deriving DecidableEq, Repr

/-- The bank states (R12). -/
inductive BankState where
  | empty
  | loading
  | armed
  | active
  | draining
  deriving DecidableEq, Repr

/-- A plan bank (R12). Its reference count is read from its records (`Bank.refCount` in Machine/Ops.lean). -/
structure Bank where
  state : BankState
  records : List StepRecord
  final : Bool
  live : Nat
  deriving DecidableEq, Repr

/-- A bank as power-on leaves it (R12). -/
def Bank.reset : Bank := { state := .empty, records := [], final := false, live := 0 }

/-- The two plan banks. -/
structure Plan where
  a : Bank
  b : Bank
  deriving DecidableEq, Repr

/-- The bank of that name. -/
def Plan.get (p : Plan) (which : BankId) : Bank :=
  match which with
  | .a => p.a
  | .b => p.b

/-- The plan with one bank replaced. -/
def Plan.set (p : Plan) (which : BankId) (k : Bank) : Plan :=
  match which with
  | .a => { p with a := k }
  | .b => { p with b := k }

/-! ## Site Table (R21) -/

/-- Why a site was retired (R32). -/
inductive RetireReason where
  | contact
  | limit
  | station
  deriving DecidableEq, Repr

/-- The state of a site; only a RETIRED site has a reason (R21). -/
inductive SiteState where
  | off
  | active
  | retired (why : RetireReason)
  deriving DecidableEq, Repr

/-- One site's entry (R21). -/
structure SiteEntry where
  base : Nat
  state : SiteState
  skipped : Nat
  deriving DecidableEq, Repr

/-- A site as power-on leaves it (R21). -/
def SiteEntry.reset : SiteEntry := { base := 0, state := .off, skipped := 0 }

/-- The Site Table (R21). -/
structure SiteTable where
  count : Nat
  entries : Eight SiteEntry
  deriving DecidableEq, Repr

/-! ## Dispatcher (chapters 2 and 4) -/

/-- An instance (R27): one step applied to one site or to the panel. `step` is the instance's copy of its record, which
its bank cannot change while the instance lives (log entry 3). `nodes` is its physical node set with lines (R23), in
ascending node number. -/
structure Instance where
  bank : BankId
  stepIndex : Nat
  step : StepRecord
  site : Site
  nodes : List (Node × Line)
  entered : Time
  deriving DecidableEq, Repr

/-- The blocked reasons (R58). -/
inductive Blocked where
  | none
  | paused
  | barrier
  | order
  | node
  | recall
  | channel
  | queue
  deriving DecidableEq, Repr

/-- A window entry: an instance with the dispatcher's two fields (R57). -/
structure WindowEntry where
  inst : Instance
  reason : Blocked
  recallSet : List Node
  deriving DecidableEq, Repr

/-- A position of the fetch (R25): reading a bank at a step index and next site, or past the end of a bank. -/
inductive FetchPos where
  | at (bank : BankId) (index : Nat) (site : Nat)
  | passed (bank : BankId)
  deriving DecidableEq, Repr

/-- The fetch state with the position it holds (R25). -/
inductive Fetch where
  | idle
  | reading (bank : BankId) (index : Nat) (site : Nat)
  | starved (bank : BankId)
  | atEnd (bank : BankId)
  | stopped (pos : FetchPos)
  deriving DecidableEq, Repr

/-- The dispatcher: fetch, window, paused and starved flags. `examDue` is the model's own: an event of R60 has happened
and the examination it starts has not been made (log entry 4). -/
structure Dispatcher where
  fetch : Fetch
  window : List WindowEntry
  paused : Bool
  starved : Bool
  examDue : Bool
  deriving DecidableEq, Repr

/-! ## Relay Map (chapter 3) -/

/-- The state of a node with the fields present in it (R36). -/
inductive NodeState where
  | free (claim : Option Chan)
  | closing (ch : Chan) (line : Line)
  | held (ch : Chan) (line : Line)
  | parked (ch : Chan) (line : Line)
  | opening (ch : Chan)
  deriving DecidableEq, Repr

/-- A node table entry (R36). -/
structure NodeEntry where
  state : NodeState
  closeCount : Nat
  deriving DecidableEq, Repr

/-- A node as power-on leaves it: FREE, unclaimed, close count 0 (R36). -/
def NodeEntry.reset : NodeEntry := { state := .free none, closeCount := 0 }

/-- The node table of 4096 entries, held as the list of the entries that differ from `NodeEntry.reset`, in strictly
rising node number: the one canonical form (`NodeTable.wf` in Machine/Ops.lean). -/
abbrev NodeTable := List (Node × NodeEntry)

/-- Why a release-queue entry opens its nodes (R46). -/
inductive ReleaseCause where
  | complete
  | dispatch
  | recall
  | endRun
  | emergency
  deriving DecidableEq, Repr

/-- A release-queue entry (R46). Only the emergency entry has no owner. -/
structure ReleaseEntry where
  owner : Option Chan
  cause : ReleaseCause
  nodes : List Node
  expiry : Time
  deriving DecidableEq, Repr

/-- The two causes an append may wait for (R49). -/
inductive WaitCause where
  | complete
  | endRun
  deriving DecidableEq, Repr

/-- A wait-list item (R49). -/
structure WaitItem where
  ch : Chan
  cause : WaitCause
  deriving DecidableEq, Repr

/-- A close batch with its operate expiry (R42). -/
structure CloseBatch where
  nodes : List Node
  expiry : Time
  deriving DecidableEq, Repr

/-- A command on the relay drive output (chapter 3): close or open the relay of a node on a channel and line. -/
inductive RelayCommand where
  | close (node : Node) (ch : Chan) (line : Line)
  | open (node : Node) (ch : Chan) (line : Line)
  deriving DecidableEq, Repr

/-- The Relay Map. `drive` is the relay drive output: the commands that went out in the last command or event taken, in
the order they went out (log entry 5). -/
structure RelayMap where
  nodes : NodeTable
  queue : List ReleaseEntry
  waitList : List WaitItem
  batches : Four (Option CloseBatch)
  tOp : Nat
  tRel : Nat
  drive : List RelayCommand
  deriving DecidableEq, Repr

/-! ## Result Queue (chapter 7) -/

/-- A result record (R122); `reading` is `none` where the record's reading is absent. -/
structure ResultRecord where
  label : Nat
  stepIndex : Nat
  bank : BankId
  site : Site
  channel : Chan
  group : Nat
  outcome : Verdict
  attempts : Nat
  resettles : Nat
  reading : Option Int
  clamped : Bool
  settleSamples : Nat
  finish : Time
  deriving DecidableEq, Repr

/-- The Result Queue and its list of waiting posts (R124). -/
structure ResultQueue where
  records : List ResultRecord
  waiting : List Chan
  deriving DecidableEq, Repr

/-! ## Measurement Channels, Settle Monitors, Reading Units (chapters 5 and 6) -/

/-- A channel's stimulus output (R82). -/
structure Stimulus where
  on : Bool
  range : Nat
  level : Int
  deriving DecidableEq, Repr

/-- A Settle Monitor (R103). -/
structure Monitor where
  reference : Option Int
  dwellRemaining : Nat
  prescale : Nat
  unit : Nat
  resettles : Nat
  settleSamples : Nat
  deriving DecidableEq, Repr

/-- An empty Settle Monitor (R103). -/
def Monitor.empty : Monitor :=
  { reference := none, dwellRemaining := 0, prescale := 0, unit := 0, resettles := 0, settleSamples := 0 }

/-- A Reading Unit's acquisition in progress (R108). -/
structure ReadingUnit where
  sum : Int
  count : Nat
  overrange : Bool
  deriving DecidableEq, Repr

/-- An emptied Reading Unit (R108). -/
def ReadingUnit.empty : ReadingUnit := { sum := 0, count := 0, overrange := false }

/-- The connect phase (R83). -/
inductive ConnectPhase where
  | release
  | close
  deriving DecidableEq, Repr

/-- A channel's state other than IDLE, with the fields present in it (R80). -/
inductive Phase where
  | connecting (p : ConnectPhase)
  | settling
  | acquiring
  | dwelling (count : Nat)
  | posting (rec : ResultRecord)
  | releasing
  deriving DecidableEq, Repr

/-- What a channel holds while it runs an instance (R80). -/
structure Running where
  inst : Instance
  attempt : Nat
  phase : Phase
  deriving DecidableEq, Repr

/-- A channel: its context (`none` when IDLE), its stimulus output, its Settle Monitor and its Reading Unit. -/
structure Channel where
  running : Option Running
  stim : Stimulus
  monitor : Monitor
  reading : ReadingUnit
  deriving DecidableEq, Repr

/-- A channel as power-on and RESET_PART leave it (R80, R101). -/
def Channel.reset : Channel :=
  { running := none, stim := { on := false, range := 0, level := 0 }, monitor := .empty, reading := .empty }

/-! ## Outcome Counters (chapter 8) -/

/-- The counter events (R132): six occurrence events and four level events. -/
inductive CounterEvent where
  | result
  | dispatch
  | retry
  | resettle
  | close
  | recall
  | window
  | blocked
  | busy
  | queue
  deriving DecidableEq, Repr

/-- What a wrap does (R139). -/
inductive CounterAction where
  | none
  | freeze
  | retire
  | halt
  deriving DecidableEq, Repr

/-- An outcome counter (R132). Masks are numbered as R179 gives them; `group` is `none` for ANY. -/
structure Counter where
  event : CounterEvent
  chMask : BitVec 4
  siteMask : BitVec 9
  group : Option Nat
  outcomeMask : BitVec 7
  threshold : Nat
  invert : Bool
  edge : Bool
  action : CounterAction
  value : BitVec 32
  overflow : Bool
  edgeHeld : Bool
  deriving DecidableEq, Repr

/-- A counter as power-on and RESET_PART leave it (R132). -/
def Counter.reset : Counter :=
  { event := .result, chMask := 0xF, siteMask := 0x1FF, group := none, outcomeMask := 0x7F, threshold := 0,
    invert := false, edge := false, action := .none, value := 0, overflow := false, edgeHeld := false }

/-- The eight counters and the global frozen flag (R132). -/
structure CounterBlock where
  units : Eight Counter
  frozen : Bool
  deriving DecidableEq, Repr

/-! ## Run Control (R148) -/

/-- The halt reasons (R152). -/
inductive HaltReason where
  | station
  | interlock
  | limit
  deriving DecidableEq, Repr

/-- The run state; only a HALTED run has a halt reason (R148). -/
inductive RunState where
  | idle
  | active
  | done
  | halted (why : HaltReason)
  deriving DecidableEq, Repr

/-- A sense line: live level, qualification timer (its start time while it runs) and interlock latch (R148). -/
structure Sense where
  present : Bool
  timer : Option Time
  latch : Bool
  deriving DecidableEq, Repr

/-- Run Control. `outputs` bit n is the level of FXOn. `haltAsked` is the model's own: a counter's HALT action waits for
the close of the event that caused the wrap (R139; log entry 4). -/
structure RunControl where
  state : RunState
  enabled : BitVec 4
  vac : Sense
  lid : Sense
  outputs : BitVec 4
  haltAsked : Bool
  deriving DecidableEq, Repr

/-! ## Station Link Unit (R164) -/

/-- A frame without START, LENGTH and CRC, which its fields fix (R177). -/
structure Frame where
  kind : Byte
  tag : Byte
  payload : List Byte
  deriving DecidableEq, Repr

/-- The frame receiver and its gap timer (R164, R165). Inside a frame it keeps the bytes received after START, oldest
first, and the Time Base value of the last byte, from which the gap timer runs; in HUNTING the timer is stopped. -/
inductive Receiver where
  | hunting
  | inFrame (got : List Byte) (last : Time)
  deriving DecidableEq, Repr

/-- A reply: its frame, and for SET_NOTICES the enable mask that takes effect when its last byte has been sent
(R174). -/
structure Reply where
  frame : Frame
  newMask : Option (BitVec 8)
  deriving DecidableEq, Repr

/-- The frame being sent (R170): a reply or a notice. `wire` is the frame's bytes as they go out (R177). -/
structure Outgoing where
  isReply : Bool
  newMask : Option (BitVec 8)
  frame : Frame
  wire : List Byte
  deriving DecidableEq, Repr

/-- The Station Link Unit (R164). The pending set and the enable mask have one bit for each notice kind, numbered as
R177 gives. -/
structure Link where
  receiver : Receiver
  slot : Option Frame
  fault : Bool
  errorCount : Nat
  sending : Option Outgoing
  waiting : Option Reply
  due : List Notice
  pendingSet : BitVec 8
  enableMask : BitVec 8
  watermark : Nat
  deriving DecidableEq, Repr

/-! ## The machine -/

/-- Raised by no meaning: the spec stops the part on no command and no event, so the type has no constructor. A
machine that cannot fault is safe only as far as the spec's words reach (log entry 1). -/
inductive Fault where
  deriving DecidableEq, Repr

/-- The reasons a command has no meaning. -/
inductive Refusal where
  /-- Raised by an arm of `exec` whose command has no meaning yet; no arm is one now. Safe: the machine stops. -/
  | notModelled (mnemonic : String)
  deriving DecidableEq, Repr

/-- The state of the part, block by block, and the queue of waiting commands, first in, first out. `tickTaken` is the
model's own: the monitor tick of the present Time Base value has been taken (log entry 6). -/
structure State where
  time : Time
  tickTaken : Bool
  plan : Plan
  sites : SiteTable
  disp : Dispatcher
  relays : RelayMap
  chans : Four Channel
  results : ResultQueue
  counters : CounterBlock
  run : RunControl
  link : Link
  pending : List Instr
  deriving DecidableEq, Repr

/-! ## Named updates, one for each block -/

/-- The state with another Plan Store. -/
def State.withPlan (s : State) (x : Plan) : State := { s with plan := x }
/-- The state with another Site Table. -/
def State.withSites (s : State) (x : SiteTable) : State := { s with sites := x }
/-- The state with another dispatcher. -/
def State.withDisp (s : State) (x : Dispatcher) : State := { s with disp := x }
/-- The state with another Relay Map. -/
def State.withRelays (s : State) (x : RelayMap) : State := { s with relays := x }
/-- The state with one channel replaced. -/
def State.withChan (s : State) (c : Chan) (x : Channel) : State := { s with chans := s.chans.set c x }
/-- The state with another Result Queue. -/
def State.withResults (s : State) (x : ResultQueue) : State := { s with results := x }
/-- The state with other counters. -/
def State.withCounters (s : State) (x : CounterBlock) : State := { s with counters := x }
/-- The state with another Run Control. -/
def State.withRun (s : State) (x : RunControl) : State := { s with run := x }
/-- The state with another Station Link Unit. -/
def State.withLink (s : State) (x : Link) : State := { s with link := x }
/-- The state with another command queue. -/
def State.withPending (s : State) (x : List Instr) : State := { s with pending := x }

/-! ## Power-on values -/

/-- The Site Table at power-on and after RESET_PART (R21). -/
def SiteTable.reset : SiteTable := { count := 1, entries := .fill .reset }

/-- The dispatcher at power-on and after RESET_PART (R25, R57, R76). -/
def Dispatcher.reset : Dispatcher :=
  { fetch := .idle, window := [], paused := false, starved := false, examDue := false }

/-- The Relay Map at power-on (R36, R39, R46). -/
def RelayMap.reset : RelayMap :=
  { nodes := [], queue := [], waitList := [], batches := .fill none, tOp := Config.tOpReset, tRel := Config.tRelReset,
    drive := [] }

/-- The Result Queue at power-on and after RESET_PART (R124). -/
def ResultQueue.reset : ResultQueue := { records := [], waiting := [] }

/-- The counters at power-on and after RESET_PART (R132). -/
def CounterBlock.reset : CounterBlock := { units := .fill .reset, frozen := false }

/-- A sense line at power-on with the given live level: its latch is clear, and its timer runs from Time Base 0 where
the line is lost (R163). -/
def Sense.powerOn (present : Bool) : Sense :=
  { present := present, timer := if present then none else some 0, latch := false }

/-- Run Control at power-on with the given live levels (R157, R161, R163). -/
def RunControl.powerOn (vacOk lidDown : Bool) : RunControl :=
  { state := .idle, enabled := 0, vac := .powerOn vacOk, lid := .powerOn lidDown, outputs := 0, haltAsked := false }

/-- The Station Link Unit at power-on (R164). -/
def Link.reset : Link :=
  { receiver := .hunting, slot := none, fault := false, errorCount := 0, sending := none, waiting := none, due := [],
    pendingSet := 0, enableMask := 0, watermark := Config.watermarkReset }

/-- The part at power-on with the given live levels of VAC_OK and LID_DOWN (R163), and no command waiting. -/
def State.powerOn (vacOk lidDown : Bool) : State :=
  { time := 0, tickTaken := false, plan := { a := .reset, b := .reset }, sites := .reset, disp := .reset,
    relays := .reset, chans := .fill .reset, results := .reset, counters := .reset,
    run := .powerOn vacOk lidDown, link := .reset, pending := [] }

/-- The machine right after reset: power-on with both sense lines present (the live levels are inputs, for which the
spec gives no value; log entry 2). -/
def State.reset : State := .powerOn true true

end Sys2Proof.Machine
end

