-- ==== Sys2Proof/Machine/Ops.lean ====
section
/-! DEFINITION. The named operations every meaning is written over: Time Base arithmetic, link bytes, saturating counts,
the node table, the banks' derived values and the site, line and bank tests. -/

namespace Sys2Proof.Machine

/-! ## The Time Base (R39: elapsed microseconds, whole across the wrap) -/

/-- Microseconds elapsed since `start`. -/
def elapsed (start now : Time) : Nat := (now - start).toNat

/-- The Time Base value `us` microseconds after `t`. -/
def after (t : Time) (us : Nat) : Time := t + BitVec.ofNat 32 us

/-- `now` is at or past `t`: the difference, taken round the wrap, is less than half the Time Base. -/
def reached (t now : Time) : Bool := decide ((now - t).toNat < 2147483648)

/-- The later of two Time Base values less than half the Time Base apart (R47, R52). -/
def later (t u : Time) : Time := if reached t u then u else t

/-! ## Link bytes (R179: least significant byte first) -/

/-- The unsigned integer of some bytes, least significant byte first. -/
def le : List Byte → Nat
  | [] => 0
  | b :: bs => b.toNat + 256 * le bs

/-- The `n` low bytes of an integer, least significant byte first. -/
def leBytes : Nat → Nat → List Byte
  | 0, _ => []
  | n + 1, v => BitVec.ofNat 8 (v % 256) :: leBytes n (v / 256)

/-- The two's complement reading of a value of `n` bytes. -/
def signedOf (n : Nat) (v : Nat) : Int :=
  if v < 2 ^ (8 * n - 1) then (v : Int) else (v : Int) - ((2 ^ (8 * n) : Nat) : Int)

/-- The signed integer of some bytes in two's complement, least significant byte first. -/
def sle (bs : List Byte) : Int := signedOf bs.length (le bs)

/-- The `n` bytes of a signed integer in two's complement, least significant byte first. -/
def sleBytes (n : Nat) (v : Int) : List Byte := leBytes n (v % ((2 ^ (8 * n) : Nat) : Int)).toNat

/-- A single byte. -/
def byte (v : Nat) : Byte := BitVec.ofNat 8 v

/-- The byte of an absent field (R179). -/
def absent : Byte := 0xFF

/-- `n` bytes of an absent field (R179). -/
def absentBytes (n : Nat) : List Byte := List.replicate n absent

/-- A flag as a byte or bit value. -/
def bit (b : Bool) : Nat := if b then 1 else 0

/-! ## Counts -/

/-- A count raised by one and held at its cap. -/
def bump (cap n : Nat) : Nat := min cap (n + 1)

/-- A count raised by `k` and held at its cap. -/
def bumpBy (cap k n : Nat) : Nat := min cap (n + k)

/-- A value held between two bounds. -/
def clampNat (lo hi n : Nat) : Nat := if n < lo then lo else if hi < n then hi else n

/-! ## The node table (R36) -/

/-- The entry of a node; an unlisted node is as power-on leaves it. -/
def NodeTable.get : NodeTable → Node → NodeEntry
  | [], _ => .reset
  | (m, e) :: t, n => if m = n then e else NodeTable.get t n

/-- The table with one entry replaced, in canonical form. -/
def NodeTable.set : NodeTable → Node → NodeEntry → NodeTable
  | [], n, e => if e = .reset then [] else [(n, e)]
  | (m, f) :: t, n, e =>
    if n < m then (if e = .reset then (m, f) :: t else (n, e) :: (m, f) :: t)
    else if n = m then (if e = .reset then t else (n, e) :: t)
    else (m, f) :: NodeTable.set t n e

/-- Every listed node is above `lo` and below the next, and no listed entry is what an unlisted node reads as. -/
def NodeTable.risingFrom : Option Node → NodeTable → Bool
  | _, [] => true
  | lo, (n, e) :: t =>
    (match lo with
      | none => true
      | some m => decide (m < n)) && decide (e ≠ NodeEntry.reset) && NodeTable.risingFrom (some n) t

/-- The canonical form of the node table. -/
def NodeTable.wf (t : NodeTable) : Bool := NodeTable.risingFrom none t

/-- Every listed entry rewritten, in canonical form. -/
def NodeTable.rewrite (f : Node → NodeEntry → NodeEntry) (t : NodeTable) : NodeTable :=
  t.filterMap fun p => if f p.1 p.2 = .reset then none else some (p.1, f p.1 p.2)

/-- A node's state. -/
def NodeTable.state (t : NodeTable) (n : Node) : NodeState := (t.get n).state

/-- The table with one node's state replaced and its close count kept. -/
def NodeTable.setState (t : NodeTable) (n : Node) (x : NodeState) : NodeTable := t.set n { t.get n with state := x }

/-- The nodes PARKED on a channel with their lines, in ascending number. -/
def NodeTable.parkedOn (t : NodeTable) (c : Chan) : List (Node × Line) :=
  t.filterMap fun p =>
    match p.2.state with
    | .parked d l => if d = c then some (p.1, l) else none
    | _ => none

/-- The nodes HELD on a channel with their lines, in ascending number. -/
def NodeTable.heldOn (t : NodeTable) (c : Chan) : List (Node × Line) :=
  t.filterMap fun p =>
    match p.2.state with
    | .held d l => if d = c then some (p.1, l) else none
    | _ => none

/-- The node is HELD on that channel. -/
def NodeState.isHeldOn (x : NodeState) (c : Chan) : Bool :=
  match x with
  | .held d _ => d = c
  | _ => false

/-- The node is FREE, claimed or not. -/
def NodeState.isFree (x : NodeState) : Bool :=
  match x with
  | .free _ => true
  | _ => false

/-- The node is OPENING. -/
def NodeState.isOpening (x : NodeState) : Bool :=
  match x with
  | .opening _ => true
  | _ => false

/-- The relay a closed or closing node stands on. -/
def NodeState.relay? (x : NodeState) : Option (Chan × Line) :=
  match x with
  | .closing c l => some (c, l)
  | .held c l => some (c, l)
  | .parked c l => some (c, l)
  | .free _ => none
  | .opening _ => none

/-! ## Instances -/

/-- The line an instance needs a node on, if it uses the node (R23). -/
def Instance.lineOf (i : Instance) (n : Node) : Option Line := (i.nodes.find? fun p => p.1 = n).map Prod.snd

/-- The instance uses the node. -/
def Instance.uses (i : Instance) (n : Node) : Bool := i.nodes.any fun p => p.1 = n

/-- The two instances use a common physical node, on any line (R66). -/
def Instance.shares (i j : Instance) : Bool := i.nodes.any fun p => j.uses p.1

/-- The identity of an instance among those of one run (R28). -/
def Instance.key (i : Instance) : BankId × Nat × Site := (i.bank, i.stepIndex, i.site)

/-- A node with its line put in its place by ascending node number. -/
def insertNode (p : Node × Line) : List (Node × Line) → List (Node × Line)
  | [] => [p]
  | q :: qs => if p.1 ≤ q.1 then p :: q :: qs else q :: insertNode p qs

/-- A node set in ascending node number. -/
def sortNodes : List (Node × Line) → List (Node × Line)
  | [] => []
  | p :: ps => insertNode p (sortNodes ps)

/-- A record's references with the line of the list each stands in (R4). -/
def StepRecord.references (r : StepRecord) : List (Nat × Line) :=
  r.force.map (fun n => (n, .forceLine)) ++ r.ret.map (fun n => (n, .returnLine)) ++
    r.guard.map (fun n => (n, .guardLine))

/-- The number of references a record holds (R4). -/
def StepRecord.refCount (r : StepRecord) : Nat := r.force.length + r.ret.length + r.guard.length

/-- The reference count of a bank: the total references of its records (R12). -/
def Bank.refCount (b : Bank) : Nat := (b.records.map StepRecord.refCount).sum

/-- The bank that is not this one. -/
def otherBank (which : BankId) : BankId :=
  match which with
  | .a => .b
  | .b => .a

/-! ## Channels and their places in State -/

/-- A channel is IDLE when it runs no instance (R80). -/
def Channel.idle (c : Channel) : Bool := c.running.isNone

/-- One channel's state. -/
def State.chan (s : State) (c : Chan) : Channel := s.chans.get c

/-- The channel is IDLE. -/
def State.chanIdle (s : State) (c : Chan) : Bool := (s.chan c).idle

/-- The instance in a channel, if any. -/
def State.instIn (s : State) (c : Chan) : Option Instance := (s.chan c).running.map Running.inst

/-- The channel is in the enable set (R157). -/
def State.chanEnabled (s : State) (c : Chan) : Bool := s.run.enabled.getLsbD c.val

/-- The run is ACTIVE. -/
def State.active (s : State) : Bool := s.run.state = .active

/-- The state with an examination due (R60). -/
def State.noteExam (s : State) : State := s.withDisp { s.disp with examDue := true }

/-- The state with another window. -/
def State.withWindow (s : State) (w : List WindowEntry) : State := s.withDisp { s.disp with window := w }

/-- The state with another node table. -/
def State.withNodes (s : State) (t : NodeTable) : State := s.withRelays { s.relays with nodes := t }

/-- The state with one channel's context replaced. -/
def State.withRunning (s : State) (c : Chan) (r : Option Running) : State :=
  s.withChan c { s.chan c with running := r }

/-- One sense line. -/
def State.sense (s : State) (l : SenseLine) : Sense :=
  match l with
  | .vacOk => s.run.vac
  | .lidDown => s.run.lid

/-- The state with one sense line replaced. -/
def State.withSense (s : State) (l : SenseLine) (x : Sense) : State :=
  match l with
  | .vacOk => s.withRun { s.run with vac := x }
  | .lidDown => s.withRun { s.run with lid := x }

end Sys2Proof.Machine
end

