-- ==== Sys2Proof/Machine/Reading.lean ====
section
/-! DEFINITION. What one sample does to a Settle Monitor and a Reading Unit (chapter 6), and the reading arithmetic
(R116 to R121): pure functions of the step and the sample. -/

namespace Sys2Proof.Machine

/-! ## The Settle Monitor -/

/-- The monitor at the start of an attempt (R104). -/
def Monitor.load (r : StepRecord) : Monitor :=
  { reference := none, dwellRemaining := r.dwell, prescale := r.prescale, unit := r.units, resettles := 0,
    settleSamples := 0 }

/-- The magnitude of s − r is at most band (R105). -/
def inBand (band : Nat) (r s : Int) : Bool := decide ((s - r).natAbs ≤ band)

/-- The band test of a sample taken in SETTLING (R105), the in-band sample counted down. -/
def Monitor.bandTest (m : Monitor) (r : StepRecord) (v : Int) : Monitor :=
  match m.reference with
  | none => { m with reference := some v, dwellRemaining := m.dwellRemaining - 1 }
  | some x =>
    if inBand r.band x v then { m with dwellRemaining := m.dwellRemaining - 1 }
    else { m with reference := some v, dwellRemaining := r.dwell - 1 }

/-- The deadline charge (R107): `none` where both counters stand at 0 and the deadline has expired. -/
def Monitor.charge (m : Monitor) (r : StepRecord) : Option Monitor :=
  if 0 < m.prescale then some { m with prescale := m.prescale - 1 }
  else if 0 < m.unit then some { m with unit := m.unit - 1, prescale := r.prescale }
  else none

/-- The monitor after a sample taken in SETTLING, before any charge (R105, R113). -/
def Monitor.settleSample (m : Monitor) (r : StepRecord) (v : Int) : Monitor :=
  let t := m.bandTest r v
  { t with settleSamples := t.settleSamples + 1 }

/-- The monitor after a drift within the resettle limit (R110). -/
def Monitor.drift (m : Monitor) (r : StepRecord) (v : Int) : Monitor :=
  { m with reference := some v, dwellRemaining := r.dwell - 1, resettles := m.resettles + 1 }

/-- The monitor after a drift that exhausts the resettle limit (R111). -/
def Monitor.exhaust (m : Monitor) (v : Int) : Monitor := { m with reference := some v }

/-! ## The Reading Unit -/

/-- A sample is one of the converter's two clamp codes (R109). -/
def isClampCode (v : Int) : Bool := v = Config.clampLow || v = Config.clampHigh

/-- An in-band sample is taken into the acquisition (R109). -/
def ReadingUnit.take (u : ReadingUnit) (v : Int) : ReadingUnit :=
  { sum := u.sum + v, count := u.count + 1, overrange := u.overrange || isClampCode v }

/-- Stage 1: the average of a sum of 2^k samples, a half rounded toward plus infinity (R117). -/
def average (k : Nat) (sum : Int) : Int := if k = 0 then sum else (sum + 2 ^ (k - 1)) / 2 ^ k

/-- Stage 3: the scaled value, a half rounded toward plus infinity (R119). -/
def scaled (d : Int) (scale e : Nat) : Int := (d * scale * 2 ^ e + 8192) / 16384

/-- Stage 4: the reading and its clamped mark (R120). -/
def fitReading (u : Int) : Int × Bool :=
  if u > Config.readingMax then (Config.readingMax, true)
  else if u < Config.readingMin then (Config.readingMin, true)
  else (u, false)

/-- Stages 1 to 4: the reading M and its clamped mark (R116). -/
def computeReading (r : StepRecord) (sum : Int) : Int × Bool :=
  fitReading (scaled (average r.acquireExp sum - r.null) r.scale r.scaleExp)

/-- What the end of an attempt hands the channel (R85): the outcome, and the reading with its clamped mark. -/
structure Judgement where
  outcome : Verdict
  reading : Option Int
  clamped : Bool
  deriving DecidableEq, Repr

/-- The judgement of an attempt that ends with no reading. -/
def Judgement.bare (v : Verdict) : Judgement := { outcome := v, reading := none, clamped := false }

/-- Stage 5: the judgement of a completed acquisition, by the first case that applies (R121). -/
def judgeReading (r : StepRecord) (u : ReadingUnit) : Judgement :=
  let m := computeReading r u.sum
  if u.overrange then .bare .overrange
  else if m.2 && m.1 = Config.readingMax then { outcome := .high, reading := some m.1, clamped := true }
  else if m.2 && m.1 = Config.readingMin then { outcome := .low, reading := some m.1, clamped := true }
  else if m.1 < r.lo then { outcome := .low, reading := some m.1, clamped := m.2 }
  else if m.1 > r.hi then { outcome := .high, reading := some m.1, clamped := m.2 }
  else { outcome := .pass, reading := some m.1, clamped := m.2 }

/-- The number of samples of an acquisition (R112). -/
def acquireCount (r : StepRecord) : Nat := 2 ^ r.acquireExp

/-! ## What a sample is to a channel -/

/-- What a sample arriving on a channel does, by the channel's state (R81). -/
inductive SampleKind where
  /-- It is discarded (IDLE, CONNECTING, POSTING, RELEASING). -/
  | discard
  /-- DWELLING: it is counted. -/
  | dwell
  /-- DWELLING: it completes the dwell (R89). -/
  | dwellDone
  /-- SETTLING: it brings dwell remaining to 0 (R106). -/
  | settle
  /-- SETTLING: it is charged to the deadline (R107). -/
  | charge
  /-- SETTLING: its charge expires the deadline (R107). -/
  | expire
  /-- ACQUIRING: it is taken into the sum (R109). -/
  | acquire
  /-- ACQUIRING: it completes the acquisition (R112). -/
  | complete
  /-- ACQUIRING: it is drift within the resettle limit (R110). -/
  | drift
  /-- ACQUIRING: it is drift at the resettle limit (R111). -/
  | exhaust
  deriving DecidableEq, Repr

/-- A sample in SETTLING (R105 to R107). -/
def settlingKind (r : StepRecord) (m : Monitor) (v : Int) : SampleKind :=
  if (m.settleSample r v).dwellRemaining = 0 then .settle
  else if ((m.settleSample r v).charge r).isSome then .charge
  else .expire

/-- A sample in ACQUIRING (R109 to R112). A channel in ACQUIRING always has a reference (R106). -/
def acquiringKind (r : StepRecord) (m : Monitor) (u : ReadingUnit) (v : Int) : SampleKind :=
  if inBand r.band (m.reference.getD v) v then
    (if u.count + 1 = acquireCount r then .complete else .acquire)
  else if m.resettles < r.resettleLimit then .drift
  else .exhaust

/-- What a sample is to the channel it arrives on (R81). -/
def Channel.sampleKind (c : Channel) (v : Int) : SampleKind :=
  match c.running with
  | none => .discard
  | some k =>
    match k.phase with
    | .connecting _ => .discard
    | .settling => settlingKind k.inst.step c.monitor v
    | .acquiring => acquiringKind k.inst.step c.monitor c.reading v
    | .dwelling n => if n + 1 = k.inst.step.dwell then .dwellDone else .dwell
    | .posting _ => .discard
    | .releasing => .discard

end Sys2Proof.Machine
end

