-- ==== Sys2Proof/Machine/Operands.lean ====
section
/-! DEFINITION. The operand forms of the station link: the code tables of R178 and R179 in both directions, the payload
of each request (R182), the step record (R180) and the result record (R181). -/

namespace Sys2Proof.Machine

/-! ## Codes -/

/-- The requests of the part (R178). -/
inductive Request where
  | readStatus
  | resync
  | resetPart
  | setTiming
  | setSites
  | setChannels
  | setNotices
  | clearNotice
  | setOutputs
  | clearInterlock
  | loadSteps
  | armBank
  | clearBank
  | startRun
  | pauseRun
  | resumeRun
  | abortRun
  | endRun
  | retireSite
  | readResults
  | readNodes
  | clearCloseCounts
  | setCounter
  | readCounters
  | clearOverflow
  | freezeCounters
  deriving DecidableEq, Repr

/-- The KIND of each request (R178). -/
def requestCode (r : Request) : Byte :=
  match r with
  | .readStatus => 0x01
  | .resync => 0x02
  | .resetPart => 0x03
  | .setTiming => 0x10
  | .setSites => 0x11
  | .setChannels => 0x12
  | .setNotices => 0x13
  | .clearNotice => 0x14
  | .setOutputs => 0x15
  | .clearInterlock => 0x16
  | .loadSteps => 0x20
  | .armBank => 0x21
  | .clearBank => 0x22
  | .startRun => 0x30
  | .pauseRun => 0x31
  | .resumeRun => 0x32
  | .abortRun => 0x33
  | .endRun => 0x34
  | .retireSite => 0x35
  | .readResults => 0x40
  | .readNodes => 0x41
  | .clearCloseCounts => 0x42
  | .setCounter => 0x50
  | .readCounters => 0x51
  | .clearOverflow => 0x52
  | .freezeCounters => 0x53

/-- Every request, in kind-code order. -/
def allRequests : List Request :=
  [.readStatus, .resync, .resetPart, .setTiming, .setSites, .setChannels, .setNotices, .clearNotice, .setOutputs,
   .clearInterlock, .loadSteps, .armBank, .clearBank, .startRun, .pauseRun, .resumeRun, .abortRun, .endRun,
   .retireSite, .readResults, .readNodes, .clearCloseCounts, .setCounter, .readCounters, .clearOverflow,
   .freezeCounters]

/-- The request a KIND names; any other kind is unknown (R178). -/
def requestOf (kind : Byte) : Option Request := allRequests.find? fun r => requestCode r = kind

/-- The status byte (R178). -/
def statusCode (s : Status) : Byte :=
  match s with
  | .ok => 0
  | .state => 1
  | .range => 2
  | .full => 3
  | .nodeRange => 4
  | .nodeDup => 5
  | .scope => 6
  | .length => 7
  | .unknown => 8
  | .faulted => 9
  | .interlocked => 10

/-- Bank codes (R179). -/
def bankCode (which : BankId) : Byte :=
  match which with
  | .a => 0
  | .b => 1

/-- The bank a code names (R179). -/
def bankOf (c : Byte) : Option BankId := if c = 0 then some .a else if c = 1 then some .b else none

/-- Step kind codes (R179). -/
def kindOf (c : Byte) : Option StepKind :=
  if c = 0 then some .measure else if c = 1 then some .contact else if c = 2 then some .discharge else none

/-- The code of a step kind (R179). -/
def kindCode (k : StepKind) : Byte :=
  match k with
  | .measure => 0
  | .contact => 1
  | .discharge => 2

/-- Scope codes (R179). -/
def scopeOf (c : Byte) : Option Scope := if c = 0 then some .site else if c = 1 then some .common else none

/-- The code of a scope (R179). -/
def scopeCode (s : Scope) : Byte :=
  match s with
  | .site => 0
  | .common => 1

/-- A two-way operand: 0 or 1, any other value names neither (R179). -/
def twoWay (c : Byte) : Option Bool := if c = 0 then some false else if c = 1 then some true else none

/-- The byte of a two-way operand (R179). -/
def flagByte (b : Bool) : Byte := if b then 1 else 0

/-- Line codes (R179). -/
def lineCode (l : Line) : Byte :=
  match l with
  | .forceLine => 0
  | .returnLine => 1
  | .guardLine => 2

/-- Site codes (R179). -/
def siteCode (s : Site) : Byte :=
  match s with
  | .board i => BitVec.ofNat 8 i.val
  | .panel => 15

/-- Outcome codes (R179), which are also the bit numbers of an outcome mask. -/
def verdictNo (v : Verdict) : Nat :=
  match v with
  | .pass => 0
  | .low => 1
  | .high => 2
  | .unsettled => 3
  | .overrange => 4
  | .aborted => 5
  | .done => 6

/-- Run state codes (R179). -/
def runStateCode (r : RunState) : Byte :=
  match r with
  | .idle => 0
  | .active => 1
  | .done => 2
  | .halted _ => 3

/-- Halt reason codes: none in every run state except HALTED (R148, R179). -/
def haltReasonCode (r : RunState) : Byte :=
  match r with
  | .idle => 0
  | .active => 0
  | .done => 0
  | .halted .station => 1
  | .halted .interlock => 2
  | .halted .limit => 3

/-- Bank state codes (R179). -/
def bankStateCode (b : BankState) : Byte :=
  match b with
  | .empty => 0
  | .loading => 1
  | .armed => 2
  | .active => 3
  | .draining => 4

/-- Fetch state codes (R179). -/
def fetchCode (f : Fetch) : Byte :=
  match f with
  | .idle => 0
  | .reading _ _ _ => 1
  | .starved _ => 2
  | .atEnd _ => 3
  | .stopped _ => 4

/-- Site state codes (R179). -/
def siteStateCode (x : SiteState) : Byte :=
  match x with
  | .off => 0
  | .active => 1
  | .retired _ => 2

/-- Retirement reason codes (R179). -/
def retireReasonCode (x : SiteState) : Byte :=
  match x with
  | .off => 0
  | .active => 0
  | .retired .contact => 1
  | .retired .limit => 2
  | .retired .station => 3

/-- Channel state codes (R179). -/
def channelCode (r : Option Running) : Byte :=
  match r.map Running.phase with
  | none => 0
  | some (.connecting _) => 1
  | some .settling => 2
  | some .acquiring => 3
  | some (.dwelling _) => 4
  | some (.posting _) => 5
  | some .releasing => 6

/-- Connect phase codes (R179). -/
def connectCode (p : ConnectPhase) : Byte :=
  match p with
  | .release => 0
  | .close => 1

/-- Blocked reason codes (R179). -/
def blockedCode (b : Blocked) : Byte :=
  match b with
  | .none => 0
  | .paused => 1
  | .barrier => 2
  | .order => 3
  | .node => 4
  | .recall => 5
  | .channel => 6
  | .queue => 7

/-- Node state codes (R179). -/
def nodeStateCode (x : NodeState) : Byte :=
  match x with
  | .free _ => 0
  | .closing _ _ => 1
  | .held _ _ => 2
  | .parked _ _ => 3
  | .opening _ => 4

/-- Release cause codes (R179). -/
def causeCode (c : ReleaseCause) : Byte :=
  match c with
  | .complete => 0
  | .dispatch => 1
  | .recall => 2
  | .endRun => 3
  | .emergency => 4

/-- The cause code of a wait-list item (R179). -/
def waitCode (c : WaitCause) : Byte :=
  match c with
  | .complete => 0
  | .endRun => 3

/-- Counter event codes (R179). -/
def eventCode (e : CounterEvent) : Byte :=
  match e with
  | .result => 0
  | .dispatch => 1
  | .retry => 2
  | .resettle => 3
  | .close => 4
  | .recall => 5
  | .window => 6
  | .blocked => 7
  | .busy => 8
  | .queue => 9

/-- Every counter event, in code order. -/
def allEvents : List CounterEvent :=
  [.result, .dispatch, .retry, .resettle, .close, .recall, .window, .blocked, .busy, .queue]

/-- The event a code names (R179). -/
def eventOf (c : Byte) : Option CounterEvent := allEvents.find? fun e => eventCode e = c

/-- Counter action codes (R179). -/
def actionCode (a : CounterAction) : Byte :=
  match a with
  | .none => 0
  | .freeze => 1
  | .retire => 2
  | .halt => 3

/-- The action a code names (R179). -/
def actionOf (c : Byte) : Option CounterAction :=
  [CounterAction.none, .freeze, .retire, .halt].find? fun a => actionCode a = c

/-- A counter group: 0..15, or ANY as 16; the outer `none` names neither (R179). -/
def groupOf (c : Byte) : Option (Option Nat) :=
  if c.toNat < 16 then some (some c.toNat) else if c = 16 then some none else none

/-- The code of a counter group (R179). -/
def groupCode (g : Option Nat) : Byte :=
  match g with
  | some n => byte n
  | none => 16

/-! ## The step record on the link (R180) -/

/-- The byte at an offset of a record. -/
def byteAt (bs : List Byte) (i : Nat) : Byte := bs.getD i 0

/-- The `n` bytes from an offset. -/
def bytesAt (bs : List Byte) (i n : Nat) : List Byte := (bs.drop i).take n

/-- The unsigned value of the byte at an offset. -/
def natAt (bs : List Byte) (i : Nat) : Nat := (byteAt bs i).toNat

/-- The length of the record a payload begins with, from its three counts as received (R180). -/
def recordLength (bs : List Byte) : Nat := 33 + 2 * (natAt bs 19 + natAt bs 20 + natAt bs 21)

/-- Splits a payload into exactly `n` records laid end to end; `none` where it ends early or holds bytes after the last
(R180). A payload too short to hold a record's counts reads them as 0 and is still too short. -/
def splitRecords : Nat → List Byte → Option (List (List Byte))
  | 0, bs => if bs = [] then some [] else none
  | n + 1, bs =>
    if bs.length < recordLength bs then none
    else (splitRecords n (bs.drop (recordLength bs))).map (bs.take (recordLength bs) :: ·)

/-- `n` node references of two bytes each (R180). -/
def references : Nat → List Byte → List Nat
  | 0, _ => []
  | n + 1, bs => le (bs.take 2) :: references n (bs.drop 2)

/-- A step record as received: codes and counts not yet checked, tuning fields not yet clamped. -/
structure WireRecord where
  label : Nat
  kind : Byte
  scope : Byte
  barrier : Bool
  hold : Bool
  group : Nat
  range : Nat
  acquireExp : Nat
  level : Int
  band : Nat
  dwell : Nat
  units : Nat
  prescale : Nat
  resettleLimit : Nat
  retries : Nat
  scaleExp : Nat
  null : Int
  scale : Nat
  lo : Int
  hi : Int
  force : List Nat
  ret : List Nat
  guard : List Nat
  deriving DecidableEq, Repr

/-- The fields of a record of the link (R180). -/
def decodeRecord (bs : List Byte) : WireRecord :=
  let f := natAt bs 19
  let r := natAt bs 20
  let g := natAt bs 21
  { label := le (bytesAt bs 0 2), kind := byteAt bs 2, scope := byteAt bs 3
    barrier := (byteAt bs 4).getLsbD 0, hold := (byteAt bs 4).getLsbD 1
    group := natAt bs 5, range := natAt bs 6, acquireExp := natAt bs 7
    level := sle (bytesAt bs 8 2), band := le (bytesAt bs 10 2), dwell := le (bytesAt bs 12 2)
    units := natAt bs 14, prescale := natAt bs 15, resettleLimit := natAt bs 16, retries := natAt bs 17
    scaleExp := natAt bs 18, null := sle (bytesAt bs 22 3), scale := le (bytesAt bs 25 2)
    lo := sle (bytesAt bs 27 3), hi := sle (bytesAt bs 30 3)
    force := references f (bs.drop 33), ret := references r (bs.drop (33 + 2 * f))
    guard := references g (bs.drop (33 + 2 * f + 2 * r)) }

/-- The bytes of a step record (R180): what a station sends for it. -/
def encodeRecord (w : WireRecord) : List Byte :=
  leBytes 2 w.label ++ [w.kind, w.scope, byte (bit w.barrier + 2 * bit w.hold), byte w.group, byte w.range,
    byte w.acquireExp] ++ sleBytes 2 w.level ++ leBytes 2 w.band ++ leBytes 2 w.dwell ++
  [byte w.units, byte w.prescale, byte w.resettleLimit, byte w.retries, byte w.scaleExp, byte w.force.length,
    byte w.ret.length, byte w.guard.length] ++ sleBytes 3 w.null ++ leBytes 2 w.scale ++ sleBytes 3 w.lo ++
  sleBytes 3 w.hi ++ (w.force ++ w.ret ++ w.guard).flatMap (leBytes 2)

/-- A LOAD_STEPS payload: the bank byte and the records; `none` where R7's length check fails (R180). -/
def decodeLoadSteps (p : List Byte) : Option (Byte × List WireRecord) :=
  match p with
  | bank :: n :: rest => (splitRecords n.toNat rest).map fun rs => (bank, rs.map decodeRecord)
  | _ => none

/-! ## The result record on the link (R181) -/

/-- The 20 bytes of a result record (R181). -/
def encodeResult (r : ResultRecord) : List Byte :=
  leBytes 2 r.label ++ [byte r.stepIndex, bankCode r.bank, siteCode r.site, byte (r.channel.val + 16 * r.group),
    byte (verdictNo r.outcome), byte (r.attempts + 16 * r.resettles),
    byte (bit r.reading.isSome + 2 * bit r.clamped)] ++
  sleBytes 3 (r.reading.getD 0) ++ leBytes 4 r.settleSamples ++ leBytes 4 r.finish.toNat

/-! ## Payloads of the other requests (R182): `none` where the length is not the one required -/

/-- No operand. -/
def noOperand (p : List Byte) : Option Unit := if p = [] then some () else none

/-- One byte. -/
def oneByte (p : List Byte) : Option Byte :=
  match p with
  | [x] => some x
  | _ => none

/-- Two bytes. -/
def twoBytes (p : List Byte) : Option (Byte × Byte) :=
  match p with
  | [x, y] => some (x, y)
  | _ => none

/-- Two 2-byte integers: SET_TIMING and CLEAR_CLOSE_COUNTS. -/
def twoWords (p : List Byte) : Option (Nat × Nat) :=
  match p with
  | [a, b, c, d] => some (le [a, b], le [c, d])
  | _ => none

/-- A 2-byte integer and a byte: READ_NODES. -/
def wordByte (p : List Byte) : Option (Nat × Byte) :=
  match p with
  | [a, b, c] => some (le [a, b], c)
  | _ => none

/-- A byte and a 2-byte integer: SET_NOTICES. -/
def byteWord (p : List Byte) : Option (Byte × Nat) :=
  match p with
  | [a, b, c] => some (a, le [b, c])
  | _ => none

/-- Four bytes: SET_OUTPUTS. -/
def fourBytes (p : List Byte) : Option (Byte × Byte × Byte × Byte) :=
  match p with
  | [a, b, c, d] => some (a, b, c, d)
  | _ => none

/-- SET_SITES: a count and exactly that many base nodes. -/
def decodeSites (p : List Byte) : Option (Nat × List Nat) :=
  match p with
  | c :: rest => if rest.length = 2 * c.toNat then some (c.toNat, references c.toNat rest) else none
  | [] => none

/-- The operands of SET_COUNTER as received. -/
structure CounterOperands where
  index : Byte
  event : Byte
  chMask : Byte
  siteMask : Nat
  group : Byte
  outcomeMask : Byte
  threshold : Byte
  invert : Byte
  edge : Byte
  action : Byte
  preload : Nat
  deriving DecidableEq, Repr

/-- SET_COUNTER: fifteen bytes (R182). -/
def decodeCounter (p : List Byte) : Option CounterOperands :=
  match p with
  | [i, e, c, s0, s1, g, o, t, v, d, a, p0, p1, p2, p3] =>
    some { index := i, event := e, chMask := c, siteMask := le [s0, s1], group := g, outcomeMask := o, threshold := t,
           invert := v, edge := d, action := a, preload := le [p0, p1, p2, p3] }
  | _ => none

end Sys2Proof.Machine
end

