-- ==== Sys2Proof/Machine/Flags.lean ====
section
/-! DEFINITION. The notice kinds: their bits, the pending set and the due list (R171 to R173, R177), and the conditions
of the four level kinds. -/

namespace Sys2Proof.Machine

/-- The bit number of a notice kind (R177). -/
def Notice.bitNo (k : Notice) : Nat :=
  match k with
  | .resultsReady => 0
  | .starved => 1
  | .siteRetired => 2
  | .bankDone => 3
  | .runDone => 4
  | .runHalted => 5
  | .counterOverflow => 6
  | .interlock => 7

/-- The eight kinds in bit order. -/
def allNotices : List Notice :=
  [.resultsReady, .starved, .siteRetired, .bankDone, .runDone, .runHalted, .counterOverflow, .interlock]

/-- The set with only this kind in it. -/
def Notice.mask (k : Notice) : BitVec 8 := 1#8 <<< k.bitNo

/-- The kind is in a set numbered as R177 gives. -/
def Notice.isIn (k : Notice) (m : BitVec 8) : Bool := m.getLsbD k.bitNo

/-- A kind is raised (R171): one not pending enters the pending set and, if enabled and not yet due, the young end of
the due list; one already pending changes nothing. -/
def Link.raise (l : Link) (k : Notice) : Link :=
  if k.isIn l.pendingSet then l
  else
    { l with
      pendingSet := l.pendingSet ||| k.mask
      due := if k.isIn l.enableMask && !(l.due.contains k) then l.due ++ [k] else l.due }

/-- A block raises a notice kind (R171). -/
def State.raise (s : State) (k : Notice) : State := s.withLink (s.link.raise k)

/-- RESULTS_READY's condition: the Result Queue's count is at or above the watermark (R129). -/
def State.resultsReadyHolds (s : State) : Bool := decide (s.link.watermark ≤ s.results.records.length)

/-- The test of R129. -/
def State.testResultsReady (s : State) : State := if s.resultsReadyHolds then s.raise .resultsReady else s

/-- The condition of a level kind; an event kind has none (R171, R172). -/
def State.levelHolds (s : State) (k : Notice) : Bool :=
  match k with
  | .resultsReady => s.resultsReadyHolds
  | .starved => s.disp.starved
  | .counterOverflow => s.counters.units.toList.any Counter.overflow
  | .interlock => s.run.vac.latch || s.run.lid.latch
  | .siteRetired => false
  | .bankDone => false
  | .runDone => false
  | .runHalted => false

/-- The set of the level kinds whose condition holds. -/
def State.levelSet (s : State) : BitVec 8 :=
  allNotices.foldl (fun m k => if s.levelHolds k then m ||| k.mask else m) 0

/-- CLEAR_NOTICE's effect (R172, R173): the named kinds leave the pending set and the due list, and a named level kind
whose condition holds re-enters the pending set with no notice owed. -/
def State.clearNotices (s : State) (named : BitVec 8) : State :=
  s.withLink
    { s.link with
      pendingSet := (s.link.pendingSet &&& ~~~named) ||| (named &&& s.levelSet)
      due := s.link.due.filter fun k => !(k.isIn named) }

end Sys2Proof.Machine
end

