-- ==== Sys2Proof/Machine/Sites.lean ====
section
/-! DEFINITION. Retirement of a site (R32, R34) and the drain of a bank (R17): shared operations of the Plan Store and
the Site Table. -/

namespace Sys2Proof.Machine

/-- A bank made EMPTY: records discarded, counts 0, final flag clear (R17, R19, R20). -/
def State.emptyBank (s : State) (which : BankId) : State := s.withPlan (s.plan.set which .reset)

/-- The drain of R17, where its condition holds: a DRAINING bank with live count 0 in an ACTIVE run becomes EMPTY and
raises BANK_DONE. -/
def State.drainIfDone (s : State) (which : BankId) : State :=
  if s.active && (s.plan.get which).state = .draining && (s.plan.get which).live = 0 then
    (s.emptyBank which).raise .bankDone
  else s

/-- The live count of a bank lowered by `k`, with the drain it may complete (R13, R17). -/
def State.lowerLive (s : State) (which : BankId) (k : Nat) : State :=
  let bk := s.plan.get which
  if k = 0 then s
  else (s.withPlan (s.plan.set which { bk with live := bk.live - k })).drainIfDone which

/-- The skipped count of a site raised by `k` (R21). -/
def State.addSkipped (s : State) (i : Fin 8) (k : Nat) : State :=
  let e := s.sites.entries.get i
  s.withSites { s.sites with
    entries := s.sites.entries.set i { e with skipped := bumpBy Config.skippedMax k e.skipped } }

/-- The state of a site. -/
def State.siteState (s : State) (i : Fin 8) : SiteState := (s.sites.entries.get i).state

/-- The state with one site's state replaced. -/
def State.setSiteState (s : State) (i : Fin 8) (x : SiteState) : State :=
  s.withSites { s.sites with entries := s.sites.entries.set i { s.sites.entries.get i with state := x } }

/-- The window entries of a site. -/
def State.entriesOf (s : State) (i : Fin 8) : List WindowEntry :=
  s.disp.window.filter fun e => e.inst.site = .board i

/-- How many of a site's window entries are of a bank. -/
def State.entriesOfBank (s : State) (i : Fin 8) (which : BankId) : Nat :=
  ((s.entriesOf i).filter fun e => e.inst.bank = which).length

/-- The removal of a site's window instances without records (R34): each raises the site's skipped count and lowers its
bank's live count; the removals start an examination (R60). -/
def State.removeWaiting (s : State) (i : Fin 8) : State :=
  if s.entriesOf i = [] then s
  else
    (((((s.withWindow (s.disp.window.filter fun e => !(decide (e.inst.site = .board i)))).addSkipped i
      (s.entriesOf i).length).lowerLive .a (s.entriesOfBank i .a)).lowerLive .b (s.entriesOfBank i .b))).noteExam

/-- The retirement of a site with a reason (R32): of an ACTIVE site it records the reason, removes the site's waiting
instances and raises SITE_RETIRED; any other site is left as it is. -/
def State.retire (s : State) (i : Fin 8) (why : RetireReason) : State :=
  if s.siteState i = .active then ((s.setSiteState i (.retired why)).removeWaiting i).raise .siteRetired
  else s

end Sys2Proof.Machine
end

