-- ==== Sys2Proof/Machine/Counters.lean ====
section
/-! DEFINITION. The Outcome Counters (chapter 8): matching, amounts, wraps and their actions, for occurrence events and
for the level events of a monitor tick. -/

namespace Sys2Proof.Machine

/-- An occurrence event with its value and the attributes it carries (R133). RECALL carries a channel alone. -/
structure Occurrence where
  event : CounterEvent
  value : Nat
  ch : Chan
  site : Option Site
  group : Option Nat
  outcome : Option Verdict
  deriving DecidableEq, Repr

/-- An occurrence of a channel's instance (R100). -/
def Occurrence.ofInst (e : CounterEvent) (v : Nat) (c : Chan) (i : Instance) : Occurrence :=
  { event := e, value := v, ch := c, site := some i.site, group := some i.step.group, outcome := none }

/-- The RESULT event of a record (R93, R133). -/
def Occurrence.ofRecord (r : ResultRecord) : Occurrence :=
  { event := .result, value := 1, ch := r.channel, site := some r.site, group := some r.group,
    outcome := some r.outcome }

/-- The bit number of a site in a counter's site mask (R179). -/
def siteBit (s : Site) : Nat :=
  match s with
  | .board i => i.val
  | .panel => 8

/-- The site filter (R135). -/
def Counter.passesSite (k : Counter) (s : Site) : Bool := k.siteMask.getLsbD (siteBit s)

/-- The group filter (R135). -/
def Counter.passesGroup (k : Counter) (g : Nat) : Bool :=
  match k.group with
  | none => true
  | some x => x = g

/-- The channel filter (R135). -/
def Counter.passesChan (k : Counter) (c : Chan) : Bool := k.chMask.getLsbD c.val

/-- The outcome filter (R135). -/
def Counter.passesOutcome (k : Counter) (v : Verdict) : Bool := k.outcomeMask.getLsbD (verdictNo v)

/-- An occurrence matches a counter: the event is the counter's and every filter that applies passes (R135). An
attribute the event does not carry is not filtered on. -/
def Counter.matchesOcc (k : Counter) (o : Occurrence) : Bool :=
  k.event = o.event && k.passesChan o.ch && (o.site.all k.passesSite) && (o.group.all k.passesGroup) &&
    (o.outcome.all k.passesOutcome)

/-- The event is one of the four level events (R134). -/
def CounterEvent.isLevel (e : CounterEvent) : Bool :=
  match e with
  | .window => true
  | .blocked => true
  | .busy => true
  | .queue => true
  | .result => false
  | .dispatch => false
  | .retry => false
  | .resettle => false
  | .close => false
  | .recall => false

/-- The condition of a value under a counter's threshold and invert (R136). -/
def Counter.condition (k : Counter) (v : Nat) : Bool :=
  if k.invert then decide (v < k.threshold) else decide (k.threshold ≤ v)

/-- The amount a counter adds for a value (R136). -/
def Counter.amount (k : Counter) (v : Nat) : Nat :=
  if k.threshold = 0 then v
  else if k.edge then (if k.condition v && !k.edgeHeld then 1 else 0)
  else (if k.condition v then 1 else 0)

/-- The counter with an amount added: the value wraps modulo 2^32, and a wrap sets the overflow flag (R138). The second
part says whether it wrapped. -/
def Counter.add (k : Counter) (a : Nat) : Counter × Bool :=
  ({ k with
      value := k.value + BitVec.ofNat 32 a
      overflow := k.overflow || decide (2 ^ 32 ≤ k.value.toNat + a) },
    decide (2 ^ 32 ≤ k.value.toNat + a))

/-- A counter after an occurrence, and whether it wrapped (R136, R138, R141). -/
def Counter.onOccurrence (frozen : Bool) (o : Occurrence) (k : Counter) : Counter × Bool :=
  if k.matchesOcc o && !frozen then k.add (k.amount o.value) else (k, false)

/-- What a level counter reads at a tick, with its own filters applied (R134). -/
def State.levelValue (s : State) (k : Counter) : Nat :=
  let shown := s.disp.window.filter fun e => k.passesSite e.inst.site && k.passesGroup e.inst.step.group
  match k.event with
  | .window => shown.length
  | .blocked => (shown.filter fun e => e.reason = .order || e.reason = .node || e.reason = .recall).length
  | .busy => (allChans.filter fun c => k.passesChan c && !(s.chanIdle c)).length
  | .queue => s.results.records.length
  | .result => 0
  | .dispatch => 0
  | .retry => 0
  | .resettle => 0
  | .close => 0
  | .recall => 0

/-- A counter after a monitor tick, and whether it wrapped: the amount unless frozen, then the edge memory in any case
(R134, R137). A counter of an occurrence event does nothing. -/
def Counter.onTick (frozen : Bool) (v : Nat) (k : Counter) : Counter × Bool :=
  if k.event.isLevel then
    let r := if frozen then (k, false) else k.add (k.amount v)
    ({ r.1 with edgeHeld := k.condition v }, r.2)
  else (k, false)

/-- The sites a RETIRE action names (R139), in ascending number: the model's choice (log entry 20). -/
def maskSites (m : BitVec 9) : List (Fin 8) := allEight.filter fun i => m.getLsbD i.val

/-- A LIMIT retirement of each ACTIVE site of a list, one after another (R32, R139). R32 gives no order among them; the
order can show in the due list alone (log entry 20). -/
def State.retireAll (s : State) (sites : List (Fin 8)) : State := sites.foldl (fun t i => t.retire i .limit) s

/-- What a wrap does beyond the counter itself: COUNTER_OVERFLOW and the action. A HALT is asked for and taken at the
close of the event (R138, R139). -/
def State.wrapEffects (s : State) (k : Counter) : State :=
  let t := s.raise .counterOverflow
  match k.action with
  | .none => t
  | .freeze => t.withCounters { t.counters with frozen := true }
  | .retire => t.retireAll (maskSites k.siteMask)
  | .halt => t.withRun { t.run with haltAsked := true }

/-- The eight counters rewritten together, each by its own settings and by the frozen flag as it stands; then the
effects of the wraps, in ascending counter number (R138, R140). -/
def State.countAll (s : State) (f : Counter → Counter × Bool) : State :=
  let u := s.counters.units
  let next : Eight Counter :=
    ⟨(f u.e0).1, (f u.e1).1, (f u.e2).1, (f u.e3).1, (f u.e4).1, (f u.e5).1, (f u.e6).1, (f u.e7).1⟩
  (u.toList.filter fun k => (f k).2).foldl State.wrapEffects (s.withCounters { s.counters with units := next })

/-- An occurrence is offered to the eight counters together (R138). -/
def State.offer (s : State) (o : Occurrence) : State := s.countAll (Counter.onOccurrence s.counters.frozen o)

/-- A monitor tick is offered to the eight counters together (R134, R138). -/
def State.tickCounters (s : State) : State :=
  s.countAll fun k => Counter.onTick s.counters.frozen (s.levelValue k) k

end Sys2Proof.Machine
end

