-- ==== Sys2Proof/Machine/Relay.lean ====
section
/-! DEFINITION. The Relay Map's operations (chapter 3): appends to the release queue, the release phase of a dispatch,
parking, the wait list and the emergency open. -/

namespace Sys2Proof.Machine

/-- The open command that a closed or closing node gets. -/
def openCommand (t : NodeTable) (n : Node) : Option RelayCommand :=
  (t.state n).relay?.map fun p => .open n p.1 p.2

/-- A closed or closing node becomes OPENING, keeping its channel (R47). -/
def openNode (t : NodeTable) (n : Node) : NodeTable :=
  match (t.state n).relay? with
  | some p => t.setState n (.opening p.1)
  | none => t

/-- The expiry of an entry appended now: the later of the release time from now and the expiry of the entry before it
(R47). -/
def State.appendExpiry (s : State) : Time :=
  match s.relays.queue.getLast? with
  | some e => later (after s.time s.relays.tRel) e.expiry
  | none => after s.time s.relays.tRel

/-- An entry is appended to the release queue: open commands in ascending node number, the nodes OPENING (R47). -/
def State.appendEntry (s : State) (owner : Chan) (cause : ReleaseCause) (nodes : List Node) : State :=
  s.withRelays { s.relays with
    nodes := nodes.foldl openNode s.relays.nodes
    queue := s.relays.queue ++ [{ owner := some owner, cause := cause, nodes := nodes, expiry := s.appendExpiry }]
    drive := s.relays.drive ++ nodes.filterMap (openCommand s.relays.nodes) }

/-- The release queue has a free slot (R46). -/
def State.slotFree (s : State) : Bool := decide (s.relays.queue.length < Config.releaseSlots)

/-- The free slots of the release queue. -/
def State.freeSlots (s : State) : Nat := Config.releaseSlots - s.relays.queue.length

/-- The Relay Map reports a node available: FREE with no claim, or PARKED on an IDLE channel (R37, R67). -/
def State.available (s : State) (n : Node) : Bool :=
  match s.relays.nodes.state n with
  | .free none => true
  | .free (some _) => false
  | .parked c _ => s.chanIdle c
  | .closing _ _ => false
  | .held _ _ => false
  | .opening _ => false

/-- The parked nodes of a channel that a dispatch of the instance releases: not needed, or needed on another line
(R41, R70). -/
def State.toRelease (s : State) (c : Chan) (i : Instance) : List Node :=
  ((s.relays.nodes.parkedOn c).filter fun p => decide (i.lineOf p.1 ≠ some p.2)).map Prod.fst

/-- A node parked on channel c that the instance needs on the same line becomes HELD (R41). -/
def reuseEntry (c : Chan) (i : Instance) (n : Node) (e : NodeEntry) : NodeEntry :=
  match e.state with
  | .parked d l => if d = c && decide (i.lineOf n = some l) then { e with state := .held d l } else e
  | _ => e

/-- A FREE node with no claim is claimed by channel c (R37, R41). -/
def claimNode (c : Chan) (t : NodeTable) (n : Node) : NodeTable :=
  if t.state n = .free none then t.setState n (.free (some c)) else t

/-- The node table after a dispatch has sorted channel c's parked nodes and claimed the instance's FREE nodes (R41). -/
def sortParked (t : NodeTable) (c : Chan) (i : Instance) : NodeTable :=
  (i.nodes.map Prod.fst).foldl (claimNode c) (t.rewrite (reuseEntry c i))

/-- Every node HELD on channel c becomes PARKED on the same line (R44). -/
def parkEntry (c : Chan) (_ : Node) (e : NodeEntry) : NodeEntry :=
  match e.state with
  | .held d l => if d = c then { e with state := .parked d l } else e
  | _ => e

/-- Channel c parks its nodes (R44). -/
def State.parkNodes (s : State) (c : Chan) : State := s.withNodes (s.relays.nodes.rewrite (parkEntry c))

/-- An append joins the wait list (R49). -/
def State.joinWaitList (s : State) (c : Chan) (cause : WaitCause) : State :=
  s.withRelays { s.relays with waitList := s.relays.waitList ++ [{ ch := c, cause := cause }] }

/-- A channel becomes IDLE: its context is dropped, its instance leaves it, and an examination is due (R72, R60). -/
def State.makeIdle (s : State) (c : Chan) : State := (s.withRunning c none).noteExam

/-- The wait list without its head. -/
def State.dropWaiting (s : State) : State :=
  s.withRelays { s.relays with waitList := s.relays.waitList.tail }

/-- A freed slot is handed to the oldest waiting append (R49): a COMPLETE item's channel becomes IDLE; an END item
covers the nodes parked on its channel now, and one that covers none leaves without an entry, for the next item. -/
def grantSlot : List WaitItem → State → State
  | [], s => s
  | w :: ws, s =>
    match w.cause with
    | .complete =>
      (s.dropWaiting.appendEntry w.ch .complete ((s.relays.nodes.heldOn w.ch).map Prod.fst)).makeIdle w.ch
    | .endRun =>
      if s.relays.nodes.parkedOn w.ch = [] then grantSlot ws s.dropWaiting
      else s.dropWaiting.appendEntry w.ch .endRun ((s.relays.nodes.parkedOn w.ch).map Prod.fst)

/-- One channel's part of the END release (R51). -/
def State.endRelease (s : State) (c : Chan) : State :=
  if s.relays.nodes.parkedOn c = [] then s
  else if s.relays.waitList.any (fun w => w.ch = c) then s
  else if s.slotFree then s.appendEntry c .endRun ((s.relays.nodes.parkedOn c).map Prod.fst)
  else s.joinWaitList c .endRun

/-- The END release of every parked node, channels in ascending number (R51). -/
def State.endReleaseAll (s : State) : State := allChans.foldl State.endRelease s

/-- The release of a channel that has posted without HOLD (R45, R96): a COMPLETE entry at once where a slot is free and
no append waits, else the wait list and RELEASING. With no HELD node no entry is made (R53). -/
def State.releaseChannel (s : State) (c : Chan) : State :=
  if s.relays.nodes.heldOn c = [] then s.makeIdle c
  else if s.slotFree && decide (s.relays.waitList = []) then
    (s.appendEntry c .complete ((s.relays.nodes.heldOn c).map Prod.fst)).makeIdle c
  else s.joinWaitList c .complete

/-- A node's entry after an emergency open: claims cleared, closed and closing nodes OPENING (R52). -/
def emergencyEntry (_ : Node) (e : NodeEntry) : NodeEntry :=
  match e.state.relay? with
  | some p => { e with state := .opening p.1 }
  | none => if e.state.isFree then { e with state := .free none } else e

/-- The emergency open (R52): the queue and the wait list emptied, batches and claims discarded, every closed or closing
node commanded open in ascending number, and one EMERGENCY entry over every node that is not FREE. -/
def State.emergencyOpen (s : State) : State :=
  let t := s.relays.nodes.rewrite emergencyEntry
  let expiry := s.relays.queue.foldl (fun x e => later x e.expiry) (after s.time s.relays.tRel)
  let covered := (t.filter fun p => !(p.2.state.isFree)).map Prod.fst
  s.withRelays { s.relays with
    nodes := t
    queue := [{ owner := none, cause := .emergency, nodes := covered, expiry := expiry }]
    waitList := []
    batches := .fill none
    drive := s.relays.drive ++ s.relays.nodes.filterMap fun p => p.2.state.relay?.map fun q => .open p.1 q.1 q.2 }

/-- The claim a node takes at the expiry of its entry: a node of a DISPATCH entry that the owner's dispatched instance
needs is claimed by the owner (R37, R48). -/
def State.claimAtExpiry (s : State) (e : ReleaseEntry) (n : Node) : Option Chan :=
  match e.cause, e.owner with
  | .dispatch, some c => if (s.instIn c).any (fun i => i.uses n) then some c else none
  | _, _ => none

/-- The nodes of an expired entry become FREE, and the entry leaves the queue (R48). -/
def State.freeEntry (s : State) (e : ReleaseEntry) : State :=
  s.withRelays { s.relays with
    nodes := e.nodes.foldl
      (fun t n => if (t.state n).isOpening then t.setState n (.free (s.claimAtExpiry e n)) else t) s.relays.nodes
    queue := s.relays.queue.tail }

end Sys2Proof.Machine
end

