-- ==== Sys2Proof/Machine/Channels.lean ====
section
/-! DEFINITION. The measurement channels' connection, records and abort posts (chapter 5). -/

namespace Sys2Proof.Machine

/-- The phase of a running channel replaced; an IDLE channel is left as it is. -/
def State.setPhase (s : State) (c : Chan) (p : Phase) : State :=
  match (s.chan c).running with
  | some k => s.withRunning c (some { k with phase := p })
  | none => s

/-- The stimulus goes off and keeps the codes last sent (R82). -/
def State.stimulusOff (s : State) (c : Chan) : State :=
  s.withChan c { s.chan c with stim := { (s.chan c).stim with on := false } }

/-- The channel's Settle Monitor and Reading Unit replaced. -/
def State.withMonitor (s : State) (c : Chan) (m : Monitor) (u : ReadingUnit) : State :=
  s.withChan c { s.chan c with monitor := m, reading := u }

/-- The connection of channel c's instance is made (R84, R86, R89): a MEASURE or CONTACT instance turns the stimulus on
and enters SETTLING with a fresh attempt; a DISCHARGE instance enters DWELLING with the stimulus off. Model's choice (log
entry 39): this waits for no earlier release entry (COMPLETE, RECALL, END or EMERGENCY), so a node outside the instance can be
OPENING on the channel while the stimulus is on, where R82 says that no node of the channel is. -/
def State.connectionMade (s : State) (c : Chan) (k : Running) : State :=
  match k.inst.step.kind with
  | .measure | .contact =>
    s.withChan c
      { running := some { k with phase := .settling }
        stim := { on := true, range := k.inst.step.range, level := k.inst.step.level }
        monitor := .load k.inst.step
        reading := .empty }
  | .discharge => s.withRunning c (some { k with phase := .dwelling 0 })

/-- The nodes of an instance that its close phase closes, in ascending number: those FREE (R42). -/
def State.toClose (s : State) (i : Instance) : List (Node × Line) :=
  i.nodes.filter fun p => (s.relays.nodes.state p.1).isFree

/-- A close command's effect on the node table: CLOSING, claim cleared, close count raised (R38, R42). -/
def closeNode (c : Chan) (t : NodeTable) (p : Node × Line) : NodeTable :=
  t.set p.1 { state := .closing c p.2, closeCount := bump Config.closeCountMax (t.get p.1).closeCount }

/-- The close commands of a close phase, and the close batch they form (R42). -/
def State.closeNodes (s : State) (c : Chan) (ps : List (Node × Line)) : State :=
  s.withRelays { s.relays with
    nodes := ps.foldl (closeNode c) s.relays.nodes
    batches := s.relays.batches.set c (some { nodes := ps.map Prod.fst, expiry := after s.time s.relays.tOp })
    drive := s.relays.drive ++ ps.map fun p => .close p.1 c p.2 }

/-- The close phase of channel c (R42, R84): close commands with one CLOSE event, or, where no node needs closing, the
connection made in the same event. -/
def State.closePhase (s : State) (c : Chan) : State :=
  match (s.chan c).running with
  | none => s
  | some k =>
    if s.toClose k.inst = [] then s.connectionMade c { k with phase := .connecting .close }
    else
      ((s.withRunning c (some { k with phase := .connecting .close })).closeNodes c (s.toClose k.inst)).offer
        (.ofInst .close (s.toClose k.inst).length c k.inst)

/-! ## Records -/

/-- The record of a judgement that ends an instance's last attempt (R90). -/
def recordOf (c : Chan) (k : Running) (m : Monitor) (j : Judgement) (now : Time) : ResultRecord :=
  { label := k.inst.step.label, stepIndex := k.inst.stepIndex, bank := k.inst.bank, site := k.inst.site, channel := c,
    group := k.inst.step.group, outcome := j.outcome
    attempts := if k.inst.step.kind = .discharge then 1 else k.attempt
    resettles := if k.inst.step.kind = .discharge then 0 else m.resettles
    reading := j.reading, clamped := j.clamped
    settleSamples := if k.inst.step.kind = .discharge then k.inst.step.dwell else m.settleSamples
    finish := now }

/-- The ABORTED record of a channel in CONNECTING, SETTLING, ACQUIRING or DWELLING (R98). -/
def abortRecord (c : Chan) (k : Running) (attempts resettles settleSamples : Nat) (now : Time) : ResultRecord :=
  { label := k.inst.step.label, stepIndex := k.inst.stepIndex, bank := k.inst.bank, site := k.inst.site, channel := c,
    group := k.inst.step.group, outcome := .aborted, attempts := attempts, resettles := resettles, reading := none,
    clamped := false, settleSamples := settleSamples, finish := now }

/-- The record a halt posts for a channel, by the state the halt finds it in (R97, R98). -/
def haltRecord (c : Chan) (x : Channel) (k : Running) (now : Time) : Option ResultRecord :=
  match k.phase with
  | .connecting _ => some (abortRecord c k 1 0 0 now)
  | .settling => some (abortRecord c k k.attempt x.monitor.resettles x.monitor.settleSamples now)
  | .acquiring => some (abortRecord c k k.attempt x.monitor.resettles x.monitor.settleSamples now)
  | .dwelling n => some (abortRecord c k 1 0 n now)
  | .posting r => some r
  | .releasing => none

/-- A record is appended at the young end of the Result Queue, and the watermark test is made (R93, R125, R129). Model's
choice (log entry 19): the test comes with the append, so RESULTS_READY is raised before the BANK_DONE of the drain and
before what the RESULT event raises. -/
def State.appendRecord (s : State) (r : ResultRecord) : State :=
  (s.withResults { s.results with records := s.results.records ++ [r] }).testResultsReady

/-- A posted CONTACT record with any outcome other than PASS retires the instance's site (R94). -/
def State.contactRetire (s : State) (i : Instance) (v : Verdict) : State :=
  match i.site with
  | .board n => if i.step.kind = .contact && decide (v ≠ .pass) then s.retire n .contact else s
  | .panel => s

/-- An abort post, from the reserve (R97, R125): no live count falls. -/
def State.abortPost (s : State) (i : Instance) (r : ResultRecord) : State :=
  ((s.appendRecord r).offer (.ofRecord r)).contactRetire i r.outcome

/-- The abort of one channel by a halt (R97): the stimulus off, the record the halt finds posted from the reserve, and
the channel IDLE. -/
def State.abortChannel (s : State) (c : Chan) : State :=
  match (s.chan c).running with
  | none => s
  | some k =>
    let t := s.stimulusOff c
    let u := match haltRecord c (s.chan c) k s.time with
      | some r => t.abortPost k.inst r
      | none => t
    u.withRunning c none

/-- The abort of every channel, in ascending number; the list of waiting posts is left empty (R97, R124). -/
def State.abortChannels (s : State) : State :=
  allChans.foldl State.abortChannel (s.withResults { s.results with waiting := [] })

end Sys2Proof.Machine
end

