-- ==== Sys2Proof/Machine/Dispatcher.lean ====
section
/-! DEFINITION. The dispatch window (chapter 4): eligibility, the choice of a channel, recall, dispatch, and one walk of
the window. -/

namespace Sys2Proof.Machine

/-- Two sites concern one another at a barrier: a panel barrier concerns every instance, a site's barrier its own site's
(R64, R65). -/
def barrierCovers (b : Site) (other : Site) : Bool :=
  match b with
  | .panel => true
  | .board i => other = .board i

/-- The instances now in channels (R72). -/
def State.channelInsts (s : State) : List Instance := allChans.filterMap s.instIn

/-- A barrier instance's own wait (R64): an earlier instance it must wait for is in the window or in a channel. Every
instance in a channel that its barrier concerns is earlier than it (log entry 7). -/
def State.barrierUnsatisfied (s : State) (older : List WindowEntry) (i : Instance) : Bool :=
  i.step.barrier &&
    (older.any (fun e => barrierCovers i.site e.inst.site) ||
      s.channelInsts.any fun j => barrierCovers i.site j.site)

/-- An instance stands behind a waiting BARRIER instance that governs it (R65). -/
def behindBarrier (older : List WindowEntry) (i : Instance) : Bool :=
  older.any fun e => e.inst.step.barrier && barrierCovers e.inst.site i.site

/-- An older waiting instance uses one of its nodes (R66). -/
def orderBlocked (older : List WindowEntry) (i : Instance) : Bool := older.any fun e => i.shares e.inst

/-- The nodes of an instance that are not available (R67). -/
def State.unavailable (s : State) (i : Instance) : List Node :=
  (i.nodes.map Prod.fst).filter fun n => !(s.available n)

/-- A node is OPENING and belongs to the instance's own recall set (R67). -/
def State.recalledOpening (s : State) (e : WindowEntry) (n : Node) : Bool :=
  (s.relays.nodes.state n).isOpening && e.recallSet.contains n

/-- The candidate channels: enabled and IDLE, in ascending number (R68). -/
def State.candidates (s : State) : List Chan := allChans.filter fun c => s.chanEnabled c && s.chanIdle c

/-- A channel's reuse count for an instance (R69). -/
def State.reuse (s : State) (i : Instance) (c : Chan) : Nat :=
  (i.nodes.filter fun p => s.relays.nodes.state p.1 = .parked c p.2).length

/-- The candidate with the highest reuse count, the lowest number among equals (R69). -/
def bestOf (reuse : Chan → Nat) : Chan → List Chan → Chan
  | c, [] => c
  | c, d :: ds => if reuse c < reuse d then bestOf reuse d ds else bestOf reuse c ds

/-- The chosen channel, where there is a candidate (R68, R69). -/
def State.choose (s : State) (i : Instance) : Option Chan :=
  match s.candidates with
  | [] => none
  | c :: cs => some (bestOf (s.reuse i) c cs)

/-- The instance's nodes parked on a channel, on whatever line (R50). -/
def State.parkedFor (s : State) (i : Instance) (c : Chan) : List Node :=
  ((s.relays.nodes.parkedOn c).filter fun p => i.uses p.1).map Prod.fst

/-- The owners of a recall: the channels other than the chosen one that hold nodes of the instance parked, in ascending
number (R73). -/
def State.recallOwners (s : State) (i : Instance) (c : Chan) : List Chan :=
  allChans.filter fun d => decide (d ≠ c) && decide (s.parkedFor i d ≠ [])

/-- What an examination decides for one entry (R61). -/
inductive Decision where
  | hold (why : Blocked)
  | recall (owners : List Chan)
  | dispatch (c : Chan)
  deriving DecidableEq, Repr

/-- The checks of R61 from the choice of a channel on. -/
def State.decideChannel (s : State) (i : Instance) : Decision :=
  match s.choose i with
  | none => .hold .channel
  | some c =>
    if s.recallOwners i c ≠ [] then
      (if (s.recallOwners i c).length ≤ s.freeSlots then .recall (s.recallOwners i c) else .hold .queue)
    else if decide (s.toRelease c i ≠ []) && !s.slotFree then .hold .queue
    else .dispatch c

/-- The checks of R61 in order, for an entry with the older entries still waiting. -/
def State.decideEntry (s : State) (older : List WindowEntry) (e : WindowEntry) : Decision :=
  if s.disp.paused then .hold .paused
  else if s.barrierUnsatisfied older e.inst || behindBarrier older e.inst then .hold .barrier
  else if orderBlocked older e.inst then .hold .order
  else if s.unavailable e.inst ≠ [] then
    .hold (if (s.unavailable e.inst).all (s.recalledOpening e) then .recall else .node)
  else s.decideChannel e.inst

/-- The window entry of that identity. -/
def State.entryOf (s : State) (k : BankId × Nat × Site) : Option WindowEntry :=
  s.disp.window.find? fun e => e.inst.key = k

/-- The entries older than the one of that identity. -/
def State.olderThan (s : State) (k : BankId × Nat × Site) : List WindowEntry :=
  s.disp.window.takeWhile fun e => decide (e.inst.key ≠ k)

/-- The window with one entry's two dispatcher fields replaced. -/
def State.markEntry (s : State) (k : BankId × Nat × Site) (why : Blocked) (recalled : List Node) : State :=
  s.withWindow (s.disp.window.map fun e =>
    if e.inst.key = k then { e with reason := why, recallSet := e.recallSet ++ recalled } else e)

/-- One RECALL entry with its RECALL event (R50). -/
def State.recallFrom (i : Instance) (s : State) (c : Chan) : State :=
  (s.appendEntry c .recall (s.parkedFor i c)).offer
    { event := .recall, value := (s.parkedFor i c).length, ch := c, site := none, group := none, outcome := none }

/-- A recall is issued: the nodes join the recall set, the entry shows RECALL, and one RECALL entry is appended for each
owner (R73). -/
def State.issueRecall (s : State) (e : WindowEntry) (owners : List Chan) : State :=
  owners.foldl (State.recallFrom e.inst)
    (s.markEntry e.inst.key .recall (owners.flatMap fun c => s.parkedFor e.inst c))

/-- The Relay Map's part of a dispatch (R41): parked nodes sorted, FREE nodes claimed, a DISPATCH entry appended where
there is a node to release, and the close phase in the same event where there is none (R84). The END item of a channel
that takes an instance leaves the wait list (R49). -/
def State.connectFor (s : State) (c : Chan) (i : Instance) : State :=
  let t := s.withRelays { s.relays with
    nodes := sortParked s.relays.nodes c i
    waitList := s.relays.waitList.filter fun w => !(decide (w = { ch := c, cause := .endRun })) }
  if s.toRelease c i = [] then t.closePhase c
  else (t.setPhase c (.connecting .release)).appendEntry c .dispatch (s.toRelease c i)

/-- An instance is dispatched to channel c (R71, R83): it leaves the window, the channel takes it in CONNECTING with
attempt 1 and an emptied Settle Monitor (R103), the Relay Map connects it, and a DISPATCH event is counted. -/
def State.dispatchTo (s : State) (e : WindowEntry) (c : Chan) : State :=
  let t := (s.withWindow (s.disp.window.filter fun x => !(decide (x.inst.key = e.inst.key)))).noteExam
  let u := t.withChan c
    { t.chan c with
      running := some { inst := e.inst, attempt := 1, phase := .connecting .close }, monitor := .empty }
  (u.connectFor c e.inst).offer (.ofInst .dispatch 1 c e.inst)

/-- One entry's turn in a walk (R61): an entry no longer in the window is not walked (R139). -/
def State.examineEntry (s : State) (k : BankId × Nat × Site) : State :=
  match s.entryOf k with
  | none => s
  | some e =>
    match s.decideEntry (s.olderThan k) e with
    | .hold why => s.markEntry k why []
    | .recall owners => s.issueRecall e owners
    | .dispatch c => s.dispatchTo e c

/-- One walk of the window, oldest to youngest, each entry against the state as the walk has left it (R61). -/
def State.walk (s : State) : State :=
  (s.disp.window.map fun e => e.inst.key).foldl State.examineEntry
    (s.withDisp { s.disp with examDue := false })

end Sys2Proof.Machine
end

