-- ==== Sys2Proof/Machine/Run.lean ====
section
/-! DEFINITION. Run Control's operations (chapter 9): the halt, the examination of the window with the halts it may
cause, the completion of a run, and the close of an event. -/

namespace Sys2Proof.Machine

/-- The position a halt leaves in the fetch (R31). -/
def Fetch.halted (f : Fetch) : Fetch :=
  match f with
  | .idle => .idle
  | .reading which i n => .stopped (.at which i n)
  | .starved which => .stopped (.passed which)
  | .atEnd which => .stopped (.passed which)
  | .stopped p => .stopped p

/-- A halt request (R152, R153): in an ACTIVE run the run is HALTED with the reason and RUN_HALTED raised, the window
discarded and the fetch stopped, every channel aborted, and the emergency open made; in any other run it changes
nothing. A HALT wrap among the abort posts finds the run HALTED (R140). -/
def State.halt (s : State) (why : HaltReason) : State :=
  if s.active then
    let t := (s.withRun { s.run with state := .halted why }).raise .runHalted
    let u := t.withDisp { t.disp with window := [], fetch := t.disp.fetch.halted }
    let v := u.abortChannels.emergencyOpen
    (v.withRun { v.run with haltAsked := false }).withDisp { v.disp with examDue := false }
  else s

/-- A halt asked for by a counter's HALT action, taken with reason LIMIT (R139). -/
def State.takeAskedHalt (s : State) : State :=
  if s.run.haltAsked then ((s.withRun { s.run with haltAsked := false }).halt .limit) else s

/-- Walks of the window until no examination is due, with the halt that a walk's counter events ask for taken after that
walk (R60, R139). Each further walk follows an instance leaving the window, so `fuel` above the window's length never
runs out. An examination is made in an ACTIVE run only. -/
def examineLoop : Nat → State → State
  | 0, s => s
  | fuel + 1, s =>
    if s.disp.examDue && s.active then examineLoop fuel s.walk.takeAskedHalt else s

/-- The examination of the window at the close of an event (R60); outside an ACTIVE run there is none. -/
def State.examine (s : State) : State :=
  let t := examineLoop (s.disp.window.length + 2) s
  t.withDisp { t.disp with examDue := false }

/-- The fetch is at END (R25). -/
def State.fetchAtEnd (s : State) : Bool :=
  match s.disp.fetch with
  | .atEnd _ => true
  | .idle => false
  | .reading _ _ _ => false
  | .starved _ => false
  | .stopped _ => false

/-- The completion condition (R151). -/
def State.completed (s : State) : Bool :=
  s.active && s.fetchAtEnd && decide (s.disp.window = []) && allChans.all s.chanIdle

/-- The completion test: the run becomes DONE, the END release is made and RUN_DONE is raised (R151). -/
def State.testDone (s : State) : State :=
  if s.completed then ((s.withRun { s.run with state := .done }).endReleaseAll).raise .runDone else s

/-- The close of an event that may have lifted a block or ended the run: first the halt its counter events ask for
(R139), then the examination it starts (R60), then the completion test (R151). -/
def State.closeEvent (s : State) : State := s.takeAskedHalt.examine.testDone

end Sys2Proof.Machine
end

