-- ==== Sys2Proof/Machine/Interlock.lean ====
section
/-! DEFINITION. The sense lines, their qualification timers and the interlock latches (R158 to R160). -/

namespace Sys2Proof.Machine

/-- A line's latch is set (R159): its timer stops, INTERLOCK is raised, and an ACTIVE run is halted. -/
def State.setLatch (s : State) (l : SenseLine) : State :=
  ((s.withSense l { s.sense l with timer := none, latch := true }).raise .interlock).halt .interlock

/-- CLEAR_INTERLOCK's treatment of one line (R160): a set latch is cleared where the line is present, and set again at
once where it is lost; a clear latch and its timer are left as they are. -/
def State.clearLatch (s : State) (l : SenseLine) : State :=
  if (s.sense l).latch then
    (if (s.sense l).present then s.withSense l { s.sense l with latch := false } else s.setLatch l)
  else s

/-- The line takes a level (R158): with the latch clear, a change to lost starts the timer at the Time Base value of the
change, and a change to present stops it; with the latch set the timer stays stopped. -/
def Sense.change (x : Sense) (present : Bool) (now : Time) : Sense :=
  if x.present = present then x
  else { x with present := present, timer := if x.latch || present then none else some now }

/-- The line's timer has run for the qualification time (R158). -/
def Sense.qualified (x : Sense) (now : Time) : Bool :=
  match x.timer with
  | some t => decide (Config.qualification ≤ elapsed t now)
  | none => false

end Sys2Proof.Machine
end

