-- ==== Sys2Proof/Machine/Link.lean ====
section
/-! DEFINITION. The Station Link Unit's operations (chapter 10): the CRC, frames, the receiver, frame errors, the forming
of replies and the transmitter. -/

namespace Sys2Proof.Machine

/-! ## The check sequence (R166) -/

/-- The register after one data bit: shifted left, and combined with 0x1021 where its top bit differed. -/
def crcBit (r : BitVec 16) (d : Bool) : BitVec 16 :=
  if r.getLsbD 15 = d then r <<< 1 else (r <<< 1) ^^^ 0x1021

/-- The register after one byte, most significant bit first. -/
def crcByte (r : BitVec 16) (b : Byte) : BitVec 16 :=
  [7, 6, 5, 4, 3, 2, 1, 0].foldl (fun x i => crcBit x (b.getLsbD i)) r

/-- The CRC of some bytes. -/
def crc (bs : List Byte) : BitVec 16 := bs.foldl crcByte 0xFFFF

/-! ## Frames (R177) -/

/-- The START byte. -/
def startByte : Byte := 0xD5

/-- The bytes of a frame that its CRC covers: LENGTH, KIND, TAG and payload. -/
def Frame.covered (f : Frame) : List Byte := leBytes 2 f.payload.length ++ [f.kind, f.tag] ++ f.payload

/-- The two CRC bytes, high byte first. -/
def crcBytes (bs : List Byte) : List Byte := [(crc bs).extractLsb' 8 8, (crc bs).extractLsb' 0 8]

/-- The bytes of a frame as it is sent. -/
def Frame.bytes (f : Frame) : List Byte := startByte :: (f.covered ++ crcBytes f.covered)

/-- What the bytes received after START amount to once the last of them is taken (R165, R167). -/
inductive Received where
  | more
  | lengthError
  | crcError
  | complete (f : Frame)
  deriving DecidableEq, Repr

/-- The receiver's checks: the length at the second LENGTH byte, the CRC at the second CRC byte (R165). -/
def received (got : List Byte) : Received :=
  let n := le (got.take 2)
  if got.length = 2 ∧ Config.maxPayload < n then .lengthError
  else if 2 ≤ got.length ∧ got.length = n + 6 then
    (if got.drop (n + 4) = crcBytes (got.take (n + 4)) then
      .complete { kind := byteAt got 2, tag := byteAt got 3, payload := (got.drop 4).take n }
    else .crcError)
  else .more

/-- A frame error's account: the link error count rises to its cap and the link-fault flag is set (R167). -/
def Link.countError (l : Link) : Link :=
  { l with errorCount := bump Config.errorCountMax l.errorCount, fault := true }

/-- A frame error inside the receiver: it is counted, and the receiver returns to HUNTING with its gap timer stopped
(R167). -/
def Link.frameError (l : Link) : Link := { l.countError with receiver := .hunting }

/-! ## Sending (R170) -/

/-- The RESYNC reply kind. -/
def resyncReplyKind : Byte := 0x82

/-- The reply waiting, if any, is a RESYNC reply. -/
def Link.resyncWaits (l : Link) : Bool := l.waiting.any fun r => r.frame.kind = resyncReplyKind

/-- The notice frame of a kind that made it due, with the pending set as it stands (R170, R177). -/
def Link.noticeFrame (l : Link) (k : Notice) : Frame :=
  { kind := 0xFF, tag := 0, payload := [l.pendingSet, byte k.bitNo] }

/-- A reply begins to go out. -/
def Link.sendReply (l : Link) : Link :=
  match l.waiting with
  | some r =>
    { l with
      waiting := none
      sending := some { isReply := true, newMask := r.newMask, frame := r.frame, wire := r.frame.bytes } }
  | none => l

/-- The transmitter starts the next frame where none is being sent (R170): the oldest due notice if the link-fault flag
is clear and no RESYNC reply waits, otherwise a waiting reply, otherwise nothing. -/
def Link.startFrame (l : Link) : Link :=
  if l.sending.isSome then l
  else
    match l.due with
    | k :: ks =>
      if !l.fault && !l.resyncWaits then
        { l with
          due := ks
          sending := some
            { isReply := false, newMask := none, frame := l.noticeFrame k, wire := (l.noticeFrame k).bytes } }
      else l.sendReply
    | [] => l.sendReply

/-- The last byte of the frame being sent has gone out: the transmitter is free, and the enable mask of a SET_NOTICES
reply takes effect (R174). -/
def Link.frameSent (l : Link) (o : Outgoing) : Link :=
  { l with sending := none, enableMask := o.newMask.getD l.enableMask }

/-- No reply is waiting and none is being sent (R168). -/
def Link.ready (l : Link) : Bool := l.waiting.isNone && !(l.sending.any Outgoing.isReply)

/-! ## Replies (R168, R177) -/

/-- What serving a request comes to: the state after it, the status, the body, and SET_NOTICES' new mask. -/
structure Answer where
  state : State
  status : Status
  body : List Byte
  newMask : Option (BitVec 8)
  deriving DecidableEq, Repr

/-- A refusal: nothing changes and the reply has no body. -/
def refuse (s : State) (code : Status) : Answer := { state := s, status := code, body := [], newMask := none }

/-- An accepted request's answer. -/
def accept (s : State) (body : List Byte) : Answer := { state := s, status := .ok, body := body, newMask := none }

/-- The reply of a request with the pending set as it stands at the end of the serving event (R168, R177). -/
def State.formReply (s : State) (kind tag : Byte) (a : Answer) : State :=
  s.withLink { s.link with
    waiting := some
      { frame := { kind := kind, tag := tag, payload := statusCode a.status :: s.link.pendingSet :: a.body },
        newMask := a.newMask } }

/-! ## Events -/

/-- An event begins with nothing on the relay drive output (log entry 5). -/
def State.begin (s : State) : State := s.withRelays { s.relays with drive := [] }

/-- At the close of every event the transmitter starts the next frame if it is free (R170; log entry 10). -/
def State.transmit (s : State) : State := s.withLink s.link.startFrame

/-- The outcome of an event. -/
def event (f : State → State) (s : State) : Host.Outcome State Fault Refusal := .next (f s.begin).transmit

end Sys2Proof.Machine
end

