-- ==== Sys2Proof/Machine/FixtureEvents.lean ====
section
/-! DEFINITION. The meanings of SENSE_LINE_CHANGE and QUALIFICATION_EXPIRY. -/

namespace Sys2Proof.Machine

/-- SENSE_LINE_CHANGE (R158). -/
def execSenseLineChange (line : SenseLine) (present : Bool) (s : State) : Host.Outcome State Fault Refusal :=
  event (fun t => t.withSense line ((t.sense line).change present t.time)) s

/-- QUALIFICATION_EXPIRY (R158): the line's latch is set, where its timer has run for 2000 µs. -/
def execQualificationExpiry (line : SenseLine) (s : State) : Host.Outcome State Fault Refusal :=
  event (fun t => if (t.sense line).qualified t.time then t.setLatch line else t) s

end Sys2Proof.Machine
end

