-- ==== Sys2Proof/Machine/Status.lean ====
section
/-! DEFINITION. The status snapshot of READ_STATUS (R175, R184) and the node entries of READ_NODES (R55, R183), byte by
byte. -/

namespace Sys2Proof.Machine

/-- A byte of a field that may be absent (R179). -/
def optByte (x : Option Byte) : Byte := x.getD absent

/-- The run part: state, halt reason, flags, enable set. -/
def runBytes (s : State) : List Byte :=
  [runStateCode s.run.state, haltReasonCode s.run.state, byte (bit s.disp.paused + 2 * bit s.disp.starved),
   byte s.run.enabled.toNat]

/-- A fetch position: the bank, and the step index and next site where they are held (R25). -/
def posBytes (p : FetchPos) : List Byte :=
  match p with
  | .at which i n => bankCode which :: leBytes 2 i ++ [byte n]
  | .passed which => bankCode which :: absentBytes 3

/-- The fetch part (R25). -/
def fetchBytes (f : Fetch) : List Byte :=
  fetchCode f ::
    (match f with
      | .idle => absentBytes 4
      | .reading which i n => posBytes (.at which i n)
      | .starved which => posBytes (.passed which)
      | .atEnd which => posBytes (.passed which)
      | .stopped p => posBytes p)

/-- One bank: state, record count, reference count, final flag (R12). -/
def bankBytes (k : Bank) : List Byte :=
  bankStateCode k.state :: leBytes 2 k.records.length ++ leBytes 2 k.refCount ++ [flagByte k.final]

/-- One window entry (R57). -/
def entryBytes (e : WindowEntry) : List Byte :=
  [bankCode e.inst.bank, byte e.inst.stepIndex] ++ leBytes 2 e.inst.step.label ++
    [siteCode e.inst.site, blockedCode e.reason] ++ leBytes 4 e.inst.entered.toNat

/-- The connect phase, present in CONNECTING alone. -/
def connectByte (k : Running) : Option Byte :=
  match k.phase with
  | .connecting p => some (connectCode p)
  | .settling => none
  | .acquiring => none
  | .dwelling _ => none
  | .posting _ => none
  | .releasing => none

/-- The dwell count, present in DWELLING alone. -/
def dwellCount (r : Option Running) : Option Nat :=
  match r with
  | none => none
  | some k =>
    match k.phase with
    | .dwelling n => some n
    | .connecting _ => none
    | .settling => none
    | .acquiring => none
    | .posting _ => none
    | .releasing => none

/-- The channel waits in a list: the waiting posts in POSTING, or the wait list in RELEASING (R102). -/
def State.waitsInList (s : State) (c : Chan) : Bool :=
  match (s.chan c).running with
  | none => false
  | some k =>
    match k.phase with
    | .posting _ => s.results.waiting.contains c
    | .releasing => s.relays.waitList.any fun w => w.ch = c
    | .connecting _ => false
    | .settling => false
    | .acquiring => false
    | .dwelling _ => false

/-- The monitor that a channel's snapshot shows: in DWELLING no reference, dwell remaining as the step's dwell less the
dwell count, and the counts 0; otherwise the monitor as it stands (R89, R115). -/
def Channel.shownMonitor (c : Channel) : Monitor :=
  match c.running with
  | none => c.monitor
  | some k =>
    match k.phase with
    | .dwelling n => { Monitor.empty with dwellRemaining := k.inst.step.dwell - n }
    | .connecting _ => c.monitor
    | .settling => c.monitor
    | .acquiring => c.monitor
    | .posting _ => c.monitor
    | .releasing => c.monitor

/-- The settle snapshot (R115): a reference absent is sent as presence 0 and value 0 (R179). -/
def monitorBytes (m : Monitor) : List Byte :=
  flagByte m.reference.isSome :: sleBytes 3 (m.reference.getD 0) ++ leBytes 2 m.dwellRemaining ++
    [byte m.prescale, byte m.unit, byte m.resettles]

/-- The instance a channel holds: bank, step index, label, site, attempt; absent where it holds none. -/
def instanceBytes (r : Option Running) : List Byte :=
  match r with
  | none => absentBytes 6
  | some k =>
    [bankCode k.inst.bank, byte k.inst.stepIndex] ++ leBytes 2 k.inst.step.label ++
      [siteCode k.inst.site, byte k.attempt]

/-- One channel (R102). -/
def channelBytes (s : State) (c : Chan) : List Byte :=
  let x := s.chan c
  [channelCode x.running, optByte (x.running.bind connectByte)] ++ instanceBytes x.running ++
    [byte (bit x.running.isSome + 2 * bit x.stim.on + 4 * bit (s.waitsInList c)), byte x.stim.range] ++
    sleBytes 2 x.stim.level ++
    (match dwellCount x.running with
      | some n => leBytes 2 n
      | none => absentBytes 2) ++
    monitorBytes x.shownMonitor

/-- One release-queue entry (R46). -/
def releaseBytes (e : ReleaseEntry) : List Byte :=
  [optByte (e.owner.map fun c => byte c.val), causeCode e.cause] ++ leBytes 2 e.nodes.length ++
    leBytes 4 e.expiry.toNat

/-- One wait-list item (R49). -/
def waitBytes (w : WaitItem) : List Byte := [byte w.ch.val, waitCode w.cause]

/-- The relays part. -/
def relayBytes (r : RelayMap) : List Byte :=
  leBytes 2 r.tOp ++ leBytes 2 r.tRel ++ byte r.queue.length :: r.queue.flatMap releaseBytes ++
    byte r.waitList.length :: r.waitList.flatMap waitBytes

/-- One site (R21). -/
def siteBytes (e : SiteEntry) : List Byte :=
  leBytes 2 e.base ++ [siteStateCode e.state, retireReasonCode e.state] ++ leBytes 2 e.skipped

/-- The sense byte (R184). -/
def senseByte (r : RunControl) : Byte :=
  byte (bit r.vac.present + 2 * bit r.lid.present + 4 * bit r.vac.latch + 8 * bit r.lid.latch)

/-- The snapshot of R184. -/
def snapshot (s : State) : List Byte :=
  runBytes s ++ fetchBytes s.disp.fetch ++ bankBytes s.plan.a ++ bankBytes s.plan.b ++
    (byte s.disp.window.length :: s.disp.window.flatMap entryBytes) ++ allChans.flatMap (channelBytes s) ++
    relayBytes s.relays ++ leBytes 2 s.results.records.length ++
    (byte s.sites.count :: s.sites.entries.toList.flatMap siteBytes) ++
    [senseByte s.run, byte s.run.outputs.toNat] ++ leBytes 4 s.time.toNat ++ leBytes 2 s.link.errorCount ++
    [Config.revision]

/-- The line of a node's relay, present in CLOSING, HELD and PARKED (R36). -/
def NodeState.lineByte (x : NodeState) : Byte := optByte (x.relay?.map fun p => lineCode p.2)

/-- The channel of a node, absent in FREE (R36). -/
def NodeState.chanByte (x : NodeState) : Byte :=
  match x with
  | .free _ => absent
  | .closing c _ => byte c.val
  | .held c _ => byte c.val
  | .parked c _ => byte c.val
  | .opening c => byte c.val

/-- The claim of a node, present in FREE while a dispatched instance waits to close it (R36). -/
def NodeState.claimByte (x : NodeState) : Byte :=
  match x with
  | .free k => optByte (k.map fun c => byte c.val)
  | .closing _ _ => absent
  | .held _ _ => absent
  | .parked _ _ => absent
  | .opening _ => absent

/-- The seven bytes of a node entry in READ_NODES (R183). -/
def nodeBytes (e : NodeEntry) : List Byte :=
  [nodeStateCode e.state, e.state.chanByte, e.state.lineByte, e.state.claimByte] ++ leBytes 3 e.closeCount

end Sys2Proof.Machine
end

