-- ==== Sys2Proof/Machine/LinkRequests.lean ====
section
/-! DEFINITION. The requests of the link and of the part as a whole: READ_STATUS, RESYNC, RESET_PART, SET_NOTICES,
CLEAR_NOTICE (chapters 9 and 10). Each is what serving the request with a payload comes to. -/

namespace Sys2Proof.Machine

/-- READ_STATUS (R175): the snapshot, and nothing changes. -/
def serveReadStatus (p : List Byte) (s : State) : Answer :=
  match noOperand p with
  | none => refuse s .length
  | some _ => accept s (snapshot s)

/-- RESYNC (R169): the link-fault flag is cleared; the reply carries the link error count, which is then 0. -/
def serveResync (p : List Byte) (s : State) : Answer :=
  match noOperand p with
  | none => refuse s .length
  | some _ => accept (s.withLink { s.link with fault := false, errorCount := 0 }) (leBytes 2 s.link.errorCount)

/-- The Relay Map's reset (R54): the emergency open with the T_rel in force, then both times restored. -/
def State.resetRelays (s : State) : State :=
  let t := s.emergencyOpen
  t.withRelays { t.relays with tOp := Config.tOpReset, tRel := Config.tRelReset }

/-- The SLU's part of a reset (R176): the receiver, the request slot and a frame being sent are not touched. -/
def Link.resetPart (l : Link) : Link :=
  { l with
    fault := false, errorCount := 0, pendingSet := 0, due := [], enableMask := 0, watermark := Config.watermarkReset }

/-- Every block's reset state (R162) before the latches are treated. The Time Base keeps counting. -/
def State.resetBlocks (s : State) : State :=
  { s.resetRelays with
    plan := { a := .reset, b := .reset }, sites := .reset, disp := .reset, chans := .fill .reset, results := .reset,
    counters := .reset,
    run := { state := .idle, enabled := 0, vac := s.run.vac, lid := s.run.lid, outputs := 0, haltAsked := false },
    link := s.link.resetPart }

/-- RESET_PART (R162, R163): every block at its reset state in one event, then each latch treated as CLEAR_INTERLOCK
treats it. -/
def serveResetPart (p : List Byte) (s : State) : Answer :=
  match noOperand p with
  | none => refuse s .length
  | some _ => accept ((s.resetBlocks.clearLatch .vacOk).clearLatch .lidDown) []

/-- SET_NOTICES (R174): the clamped watermark is stored and tested at once; the mask goes with the reply. -/
def serveSetNotices (p : List Byte) (s : State) : Answer :=
  match byteWord p with
  | none => refuse s .length
  | some (mask, w) =>
    let stored := clampNat 1 256 w
    { state := (s.withLink { s.link with watermark := stored }).testResultsReady
      status := .ok
      body := mask :: leBytes 2 stored
      newMask := some mask }

/-- CLEAR_NOTICE (R173). -/
def serveClearNotice (p : List Byte) (s : State) : Answer :=
  match oneByte p with
  | none => refuse s .length
  | some mask => accept (s.clearNotices mask) []

end Sys2Proof.Machine
end

