-- ==== Sys2Proof/Machine/Fetch.lean ====
section
/-! DEFINITION. The fetch (R25 to R31): the making of instances, the bank boundary and the filling of the window. -/

namespace Sys2Proof.Machine

/-- A FETCH state set. -/
def State.withFetch (s : State) (f : Fetch) : State := s.withDisp { s.disp with fetch := f }

/-- The base node of a site. -/
def State.base (s : State) (i : Fin 8) : Nat := (s.sites.entries.get i).base

/-- The physical node set of an instance (R23): for a site its base added to each reference, for the panel each reference
itself. -/
def State.nodeSet (s : State) (r : StepRecord) (site : Site) : List (Node × Line) :=
  match site with
  | .board i => sortNodes (r.references.map fun p => (s.base i + p.1, p.2))
  | .panel => sortNodes r.references

/-- The instance of a record for a site or the panel, entering the window now (R27). -/
def State.makeInstance (s : State) (which : BankId) (index : Nat) (r : StepRecord) (site : Site) : Instance :=
  { bank := which, stepIndex := index, step := r, site := site, nodes := s.nodeSet r site, entered := s.time }

/-- An instance is appended at the young end of the window with reason none, its bank's live count rises, and an
examination is due (R13, R27, R58). -/
def State.appendInstance (s : State) (i : Instance) : State :=
  let bk := s.plan.get i.bank
  ((s.withWindow (s.disp.window ++ [{ inst := i, reason := .none, recallSet := [] }])).withPlan
    (s.plan.set i.bank { bk with live := bk.live + 1 })).noteExam

/-- The fetch becomes STARVED (R30). -/
def State.starve (s : State) (which : BankId) : State :=
  (s.withDisp { s.disp with fetch := .starved which, starved := true }).raise .starved

/-- The ACTIVE bank whose end the fetch passes becomes DRAINING, and drains at once where its live count is 0
(R16, R17, R29). -/
def State.drainBank (s : State) (which : BankId) : State :=
  (s.withPlan (s.plan.set which { s.plan.get which with state := .draining })).drainIfDone which

/-- The fetch enters an ARMED bank (R15): the bank is ACTIVE and the fetch reads it from step index 0, next site 0. -/
def State.activate (s : State) (which : BankId) : State :=
  (s.withPlan (s.plan.set which { s.plan.get which with state := .active })).withFetch (.reading which 0 0)

/-- The fetch passes the end of a bank with the other bank not ARMED: END after a final bank, STARVED otherwise (R29). -/
def State.passLast (s : State) (which : BankId) : State :=
  if (s.plan.get which).final then (s.drainBank which).withFetch (.atEnd which)
  else (s.drainBank which).starve which

/-- The bank boundary (R29): the first case that applies, END after a final bank, the other bank where it is ARMED, else
STARVED. An armed bank with no records is entered and passed in the same event, and the bank just passed cannot then be
ARMED. -/
def State.passEnd (s : State) (which : BankId) : State :=
  if (s.plan.get which).final then s.passLast which
  else if (s.plan.get (otherBank which)).state = .armed then
    let t := (s.drainBank which).activate (otherBank which)
    if (t.plan.get (otherBank which)).records = [] then t.passLast (otherBank which) else t
  else s.passLast which

/-- The fetch enters a bank, and passes it in the same event where it has no records (R16, R29). -/
def State.enterBank (s : State) (which : BankId) : State :=
  let t := s.activate which
  if (t.plan.get which).records = [] then t.passEnd which else t

/-- The first ACTIVE site at or after the next site, with the skipped counts of the RETIRED sites passed over raised
(R27). -/
def scanSites : List (Fin 8) → State → State × Option (Fin 8)
  | [], s => (s, none)
  | i :: is, s =>
    match s.siteState i with
    | .active => (s, some i)
    | .retired _ => scanSites is (s.addSkipped i 1)
    | .off => scanSites is s

/-- The configured sites from a next site on (R27). -/
def State.sitesFrom (s : State) (next : Nat) : List (Fin 8) :=
  allEight.filter fun i => decide (next ≤ i.val) && decide (i.val < s.sites.count)

/-- The position after site `i` of a step: the site after it, or the next step where it was the last configured site
(log entry 8). -/
def State.nextPos (s : State) (which : BankId) (index : Nat) (i : Fin 8) : Fetch :=
  if i.val + 1 < s.sites.count then .reading which index (i.val + 1) else .reading which (index + 1) 0

/-- The making of the next instance from the records at and after the step index (R27, R28): a record that gives no
instance is passed over in the same making, and the end of the records is the bank boundary. -/
def makeFrom (which : BankId) : List StepRecord → Nat → Nat → State → State
  | [], _, _, s => s.passEnd which
  | r :: rs, index, next, s =>
    match r.scope with
    | .common =>
      (s.appendInstance (s.makeInstance which index r .panel)).withFetch (.reading which (index + 1) 0)
    | .site =>
      match scanSites (s.sitesFrom next) s with
      | (t, some i) =>
        (t.appendInstance (t.makeInstance which index r (.board i))).withFetch (t.nextPos which index i)
      | (t, none) => makeFrom which rs (index + 1) 0 t

/-- The conditions under which the fetch makes instances (R26). -/
def State.canMake (s : State) : Bool :=
  match s.disp.fetch with
  | .reading _ _ _ => s.active && decide (s.disp.window.length < Config.windowSize)
  | .idle => false
  | .starved _ => false
  | .atEnd _ => false
  | .stopped _ => false

/-- One making of the fetch (R27). -/
def State.fetchMake (s : State) : State :=
  match s.disp.fetch with
  | .reading which i n => makeFrom which ((s.plan.get which).records.drop i) i n s
  | .idle => s
  | .starved _ => s
  | .atEnd _ => s
  | .stopped _ => s

/-- Makings one after another, each closed by its examination, until a condition of R26 fails. -/
def fillLoop : Nat → State → State
  | 0, s => s
  | fuel + 1, s => if s.canMake then fillLoop fuel s.fetchMake.closeEvent else s

/-- More makings than both banks can give: at most eight for a record and one boundary for a bank. -/
def State.fillFuel (s : State) : Nat := 8 * (s.plan.a.records.length + s.plan.b.records.length) + 4

/-- The fetch fills the window (R26). -/
def State.fill (s : State) : State := fillLoop s.fillFuel s

end Sys2Proof.Machine
end

