-- ==== Sys2Proof/Machine/PlanRequests.lean ====
section
/-! DEFINITION. The requests of the Plan Store: LOAD_STEPS, ARM_BANK, CLEAR_BANK (chapter 1). -/

namespace Sys2Proof.Machine

/-- Check 1 of R8 on the fields but the codes. -/
def WireRecord.rangeBad (w : WireRecord) : Bool :=
  !(decide (1 ≤ w.force.length ∧ w.force.length ≤ 8) && decide (1 ≤ w.ret.length ∧ w.ret.length ≤ 8) &&
    decide (w.guard.length ≤ 24) && decide (w.group ≤ 15) && decide (w.range ≤ 7) && decide (w.scaleExp ≤ 7) &&
    decide (-524288 ≤ w.null ∧ w.null ≤ 524287) && decide (-8388608 ≤ w.lo ∧ w.lo ≤ 8388607) &&
    decide (-8388608 ≤ w.hi ∧ w.hi ≤ 8388607))

/-- The references of a record, in list order. -/
def WireRecord.refs (w : WireRecord) : List Nat := w.force ++ w.ret ++ w.guard

/-- The base nodes of the configured sites (R9). -/
def SiteTable.configuredBases (t : SiteTable) : List Nat := (t.entries.toList.take t.count).map SiteEntry.base

/-- Check 2 of R8: a reference that does not map to a physical node 0..4095, for every configured site (R9). -/
def nodeRangeBad (t : SiteTable) (sc : Scope) (refs : List Nat) : Bool :=
  match sc with
  | .common => refs.any fun r => Config.nodeCount ≤ r
  | .site => t.configuredBases.any fun b => refs.any fun r => Config.nodeCount ≤ b + r

/-- A list holds the same reference twice (R8, check 3). -/
def hasDup : List Nat → Bool
  | [] => false
  | n :: ns => ns.contains n || hasDup ns

/-- Check 4 of R8. -/
def scopeBad (k : StepKind) (sc : Scope) (w : WireRecord) : Bool :=
  (k = .contact && sc = .common) || (k = .discharge && decide (w.guard ≠ []))

/-- Check 5 of R8. -/
def bankFull (k : Bank) (w : WireRecord) : Bool :=
  decide (Config.bankRecords ≤ k.records.length) ||
    decide (Config.bankReferences < k.refCount + w.refs.length)

/-- The tuning fields clamped (R10): the record as stored. -/
def WireRecord.store (w : WireRecord) (k : StepKind) (sc : Scope) : StepRecord :=
  { label := w.label, kind := k, scope := sc, barrier := w.barrier, hold := w.hold, group := w.group, range := w.range,
    level := w.level, force := w.force, ret := w.ret, guard := w.guard
    band := max 1 w.band, dwell := clampNat 1 4095 w.dwell, units := w.units, prescale := w.prescale
    acquireExp := min 8 w.acquireExp, resettleLimit := min 3 w.resettleLimit, retries := min 3 w.retries
    null := w.null, scale := w.scale, scaleExp := w.scaleExp, lo := w.lo, hi := w.hi }

/-- At least one tuning field is clamped (R10). -/
def WireRecord.clamped (w : WireRecord) : Bool :=
  decide (w.band < 1) || decide (w.dwell < 1) || decide (4095 < w.dwell) || decide (8 < w.acquireExp) ||
    decide (3 < w.resettleLimit) || decide (3 < w.retries)

/-- The checks of R8 in order: the refusal code, or the record as stored. -/
def checkRecord (t : SiteTable) (k : Bank) (w : WireRecord) : Except Status StepRecord :=
  match kindOf w.kind, scopeOf w.scope with
  | some kd, some sc =>
    if w.rangeBad then .error .range
    else if nodeRangeBad t sc w.refs then .error .nodeRange
    else if hasDup w.refs then .error .nodeDup
    else if scopeBad kd sc w then .error .scope
    else if bankFull k w then .error .full
    else .ok (w.store kd sc)
  | _, _ => .error .range

/-- A record appended to a bank, which is LOADING from its first record on (R11). -/
def Bank.append (k : Bank) (r : StepRecord) : Bank := { k with state := .loading, records := k.records ++ [r] }

/-- What the records of a LOAD_STEPS come to (R11). -/
structure Loaded where
  bank : Bank
  accepted : Nat
  clamped : Nat
  status : Status
  deriving DecidableEq, Repr

/-- The records of an accepted request, taken in order up to the first refused (R11). -/
def loadRecords (t : SiteTable) : List WireRecord → Bank → Loaded
  | [], k => { bank := k, accepted := 0, clamped := 0, status := .ok }
  | w :: ws, k =>
    match checkRecord t k w with
    | .error code => { bank := k, accepted := 0, clamped := 0, status := code }
    | .ok r =>
      let x := loadRecords t ws (k.append r)
      { x with accepted := x.accepted + 1, clamped := x.clamped + bit w.clamped }

/-- The bank accepts records and may be armed: it is EMPTY or LOADING (R7, R14). -/
def BankState.fillable (b : BankState) : Bool :=
  match b with
  | .empty => true
  | .loading => true
  | .armed => false
  | .active => false
  | .draining => false

/-- LOAD_STEPS (R7, R11). The refused index is the position of the refused record, and the number carried where none
was refused: in both cases the accepted count. -/
def serveLoadSteps (p : List Byte) (s : State) : Answer :=
  match decodeLoadSteps p with
  | none => refuse s .length
  | some (code, ws) =>
    match bankOf code with
    | none => refuse s .range
    | some which =>
      if !(s.plan.get which).state.fillable then refuse s .state
      else
        let x := loadRecords s.sites ws (s.plan.get which)
        { state := s.withPlan (s.plan.set which x.bank)
          status := x.status
          body := [byte x.accepted, byte x.accepted, byte x.clamped]
          newMask := none }

/-- The fetch is STARVED (R25). -/
def State.fetchStarved (s : State) : Bool :=
  match s.disp.fetch with
  | .starved _ => true
  | .idle => false
  | .reading _ _ _ => false
  | .atEnd _ => false
  | .stopped _ => false

/-- A bank has been armed: a STARVED fetch of an ACTIVE run enters it, the starved flag clears, and the window is filled
(R30). -/
def State.feed (s : State) (which : BankId) : State :=
  if s.fetchStarved && s.active then
    (((s.withDisp { s.disp with starved := false }).enterBank which).closeEvent).fill
  else s

/-- ARM_BANK (R14). -/
def serveArmBank (p : List Byte) (s : State) : Answer :=
  match twoBytes p with
  | none => refuse s .length
  | some (code, fin) =>
    match bankOf code, twoWay fin with
    | some which, some final =>
      if !(s.plan.get which).state.fillable then refuse s .state
      else
        accept
          ((s.withPlan (s.plan.set which { s.plan.get which with state := .armed, final := final })).feed which)
          [code, fin]
    | _, _ => refuse s .range

/-- CLEAR_BANK (R19). -/
def serveClearBank (p : List Byte) (s : State) : Answer :=
  match oneByte p with
  | none => refuse s .length
  | some code =>
    match bankOf code with
    | none => refuse s .range
    | some which =>
      match (s.plan.get which).state with
      | .empty => accept s [code]
      | .loading => accept (s.emptyBank which) [code]
      | .armed => if s.active then refuse s .state else accept (s.emptyBank which) [code]
      | .active => refuse s .state
      | .draining => refuse s .state

end Sys2Proof.Machine
end

