-- ==== Sys2Proof/Machine/Posting.lean ====
section
/-! DEFINITION. Judgements, posts and the sample event of a channel (chapters 5 to 7). -/

namespace Sys2Proof.Machine

/-- After the post (R95, R96): a HOLD step parks the channel's nodes and the channel is IDLE; any other releases them. -/
def State.parkOrRelease (s : State) (c : Chan) (i : Instance) : State :=
  if i.step.hold then (s.parkNodes c).makeIdle c else (s.setPhase c .releasing).releaseChannel c

/-- The examination that retirements of steps 3 and 4 of R93 start, made before the channel parks or releases (R94) and
not made where the post has asked for a halt (R93). Model's choices (log entry 9): the removals of a RETIRE wrap of the
RESETTLE event of an exhausting drift, earlier in the same sample event, are examined here too; the halt a counter event
of this examination asks for waits for the close of the post; and one walk is made here, the further one that a dispatch
in it starts (R60, log entry 22) being left to the close of the post, after the channel has parked or released. -/
def State.midExamine (s : State) : State :=
  if s.disp.examDue && s.active && !s.run.haltAsked then s.walk else s

/-- A normal post (R93): the record appended, the bank's live count lowered, the RESULT event, the CONTACT retirement,
and the nodes parked or released, in that order. -/
def State.normalPost (s : State) (c : Chan) (i : Instance) (r : ResultRecord) : State :=
  (((((s.appendRecord r).lowerLive i.bank 1).offer (.ofRecord r)).contactRetire i r.outcome).midExamine).parkOrRelease
    c i

/-- The Result Queue accepts a normal post (R124). -/
def State.postRoom (s : State) : Bool := decide (s.results.records.length < Config.normalPostLimit)

/-- A formed record is offered to the Result Queue (R91): posted at once where there is room, else the channel waits in
POSTING on the list of waiting posts. -/
def State.offerRecord (s : State) (c : Chan) (i : Instance) (r : ResultRecord) : State :=
  if s.postRoom then s.normalPost c i r
  else s.withResults { s.results with waiting := s.results.waiting ++ [c] }

/-- The judgement that ends the last attempt: the stimulus off, the record formed, the channel in POSTING, the record
offered (R90, R91). -/
def State.finish (s : State) (c : Chan) (k : Running) (j : Judgement) : State :=
  let r := recordOf c k (s.chan c).monitor j s.time
  ((s.stimulusOff c).setPhase c (.posting r)).offerRecord c k.inst r

/-- A further attempt (R88). -/
def State.retry (s : State) (c : Chan) (k : Running) : State :=
  (s.withChan c
    { s.chan c with
      running := some { k with attempt := k.attempt + 1, phase := .settling }
      monitor := .load k.inst.step
      reading := .empty }).offer (.ofInst .retry 1 c k.inst)

/-- A LOW or HIGH judgement with attempts left asks for a retry (R87). -/
def wantsRetry (k : Running) (j : Judgement) : Bool :=
  (j.outcome = .low || j.outcome = .high) && decide (k.attempt ≤ k.inst.step.retries)

/-- What a channel does with a judgement (R87). -/
def State.judged (s : State) (c : Chan) (k : Running) (j : Judgement) : State :=
  if wantsRetry k j then s.retry c k else s.finish c k j

/-- The signal is settled: the channel enters ACQUIRING with an empty Reading Unit (R106). -/
def State.settledNow (s : State) (c : Chan) (k : Running) (m : Monitor) : State :=
  s.withChan c { s.chan c with running := some { k with phase := .acquiring }, monitor := m, reading := .empty }

/-- A drift within the resettle limit (R110): back to SETTLING, or, with a dwell of 1, settled again in the same event;
one RESETTLE event. -/
def State.driftBack (s : State) (c : Chan) (k : Running) (v : Int) : State :=
  let m := (s.chan c).monitor.drift k.inst.step v
  let p : Phase := if m.dwellRemaining = 0 then .acquiring else .settling
  (s.withChan c { s.chan c with running := some { k with phase := p }, monitor := m, reading := .empty }).offer
    (.ofInst .resettle 1 c k.inst)

/-- A sample of a kind taken by a running channel, whole, in one event (R81, R89, R105 to R112). -/
def State.sampleBy (s : State) (c : Chan) (k : Running) (v : Int) (what : SampleKind) : State :=
  let x := s.chan c
  let r := k.inst.step
  match what with
  | .discard => s
  | .dwell =>
    match k.phase with
    | .dwelling n => s.setPhase c (.dwelling (n + 1))
    | _ => s
  | .dwellDone => s.finish c k (.bare .done)
  | .settle => s.settledNow c k (x.monitor.settleSample r v)
  | .charge =>
    s.withMonitor c (((x.monitor.settleSample r v).charge r).getD (x.monitor.settleSample r v)) x.reading
  | .expire => (s.withMonitor c (x.monitor.settleSample r v) x.reading).judged c k (.bare .unsettled)
  | .acquire => s.withMonitor c x.monitor (x.reading.take v)
  | .complete => (s.withMonitor c x.monitor (x.reading.take v)).judged c k (judgeReading r (x.reading.take v))
  | .drift => s.driftBack c k v
  | .exhaust =>
    ((s.withMonitor c (x.monitor.exhaust v) .empty).offer (.ofInst .resettle 1 c k.inst)).judged c k (.bare .unsettled)

/-- A sample arrives on channel c (R81): its whole event, closed by the halt, examination and completion test it calls
for. -/
def State.sample (s : State) (c : Chan) (v : Int) : State :=
  match (s.chan c).running with
  | none => s
  | some k => (s.sampleBy c k v ((s.chan c).sampleKind v)).closeEvent

/-- The sample event, where the sample is of the named kind; otherwise that event does not take place. -/
def State.sampleIf (s : State) (c : Chan) (v : Int) (what : SampleKind) : State :=
  if (s.chan c).sampleKind v = what then s.sample c v else s

/-- One waiting post granted as a normal post (R92), with the halt, examination and completion test it calls for before
the next grant (R127). A channel whose post a halt has made meanwhile is not on the list any more. -/
def State.grantPost (s : State) (c : Chan) : State :=
  if s.postRoom && s.results.waiting.contains c then
    match (s.chan c).running with
    | some k =>
      match k.phase with
      | .posting r =>
        ((s.withResults { s.results with waiting := s.results.waiting.filter fun d => !(decide (d = c)) }).normalPost c
          k.inst r).closeEvent
      | _ => s
    | none => s
  else s

/-- The waiting posts granted, oldest first, while the count is below 252 (R92). -/
def State.grantPosts (s : State) : State := s.results.waiting.foldl State.grantPost s

end Sys2Proof.Machine
end

