-- ==== Sys2Proof/Machine/ResultRequests.lean ====
section
/-! DEFINITION. READ_RESULTS (R126) and the requests of the Outcome Counters: SET_COUNTER, READ_COUNTERS,
CLEAR_OVERFLOW, FREEZE_COUNTERS (chapters 7 and 8). -/

namespace Sys2Proof.Machine

/-- The oldest `n` records leave the queue (R126, step 2). -/
def State.removeRecords (s : State) (n : Nat) : State :=
  s.withResults { s.results with records := s.results.records.drop n }

/-- READ_RESULTS (R126): the oldest records leave the queue, the waiting posts are granted, and the watermark test is
made; the reply carries the count after that and the removed records. -/
def serveReadResults (p : List Byte) (s : State) : Answer :=
  match oneByte p with
  | none => refuse s .length
  | some n =>
    let taken := s.results.records.take (clampNat 1 Config.maxRecordsPerReply n.toNat)
    let t := (s.removeRecords taken.length).grantPosts.testResultsReady
    accept t (byte taken.length :: leBytes 2 t.results.records.length ++ taken.flatMap encodeResult)

/-- The settings of an accepted SET_COUNTER with its preload; `none` where a code or a mask bit names nothing, or edge
is asked for an occurrence event (R142). -/
def counterOf (o : CounterOperands) : Option (Fin 8 × Counter) :=
  match allEight.find? (fun i => i.val = o.index.toNat), eventOf o.event, groupOf o.group, twoWay o.invert,
    twoWay o.edge, actionOf o.action with
  | some i, some e, some g, some v, some d, some a =>
    if 16 ≤ o.chMask.toNat || 512 ≤ o.siteMask || 128 ≤ o.outcomeMask.toNat then none
    else if d && !e.isLevel then none
    else
      some (i,
        { event := e, chMask := o.chMask.setWidth 4, siteMask := BitVec.ofNat 9 o.siteMask, group := g,
          outcomeMask := o.outcomeMask.setWidth 7, threshold := o.threshold.toNat, invert := v, edge := d, action := a,
          value := BitVec.ofNat 32 o.preload, overflow := false, edgeHeld := false })
  | _, _, _, _, _, _ => none

/-- The reply body of SET_COUNTER: the payload's layout, with the value in place of the preload (R183). -/
def counterBytes (i : Fin 8) (k : Counter) : List Byte :=
  [byte i.val, eventCode k.event, byte k.chMask.toNat] ++ leBytes 2 k.siteMask.toNat ++
    [groupCode k.group, byte k.outcomeMask.toNat, byte k.threshold, flagByte k.invert, flagByte k.edge,
      actionCode k.action] ++ leBytes 4 k.value.toNat

/-- The state with one counter replaced. -/
def State.setCounter (s : State) (i : Fin 8) (k : Counter) : State :=
  s.withCounters { s.counters with units := s.counters.units.set i k }

/-- SET_COUNTER (R142). -/
def serveSetCounter (p : List Byte) (s : State) : Answer :=
  match decodeCounter p with
  | none => refuse s .length
  | some o =>
    match counterOf o with
    | none => refuse s .range
    | some (i, k) => accept (s.setCounter i k) (counterBytes i k)

/-- The eight overflow flags, bit n counter n (R183). -/
def overflowByte (b : CounterBlock) : Byte :=
  byte (bit b.units.e0.overflow + 2 * bit b.units.e1.overflow + 4 * bit b.units.e2.overflow +
    8 * bit b.units.e3.overflow + 16 * bit b.units.e4.overflow + 32 * bit b.units.e5.overflow +
    64 * bit b.units.e6.overflow + 128 * bit b.units.e7.overflow)

/-- READ_COUNTERS (R144). -/
def serveReadCounters (p : List Byte) (s : State) : Answer :=
  match noOperand p with
  | none => refuse s .length
  | some _ =>
    accept s (s.counters.units.toList.flatMap (fun k => leBytes 4 k.value.toNat) ++
      [overflowByte s.counters, flagByte s.counters.frozen])

/-- A counter with its overflow flag cleared where the mask names it (R145). -/
def clearFlag (mask : Byte) (i : Nat) (k : Counter) : Counter :=
  { k with overflow := k.overflow && !(mask.getLsbD i) }

/-- The overflow flags of the named counters cleared (R145). -/
def State.clearFlags (s : State) (mask : Byte) : State :=
  let u := s.counters.units
  s.withCounters { s.counters with
    units := ⟨clearFlag mask 0 u.e0, clearFlag mask 1 u.e1, clearFlag mask 2 u.e2, clearFlag mask 3 u.e3,
      clearFlag mask 4 u.e4, clearFlag mask 5 u.e5, clearFlag mask 6 u.e6, clearFlag mask 7 u.e7⟩ }

/-- CLEAR_OVERFLOW (R145). -/
def serveClearOverflow (p : List Byte) (s : State) : Answer :=
  match oneByte p with
  | none => refuse s .length
  | some mask => accept (s.clearFlags mask) [overflowByte (s.clearFlags mask).counters]

/-- FREEZE_COUNTERS (R146). -/
def serveFreezeCounters (p : List Byte) (s : State) : Answer :=
  match oneByte p with
  | none => refuse s .length
  | some x =>
    match twoWay x with
    | none => refuse s .range
    | some on => accept (s.withCounters { s.counters with frozen := on }) [x]

end Sys2Proof.Machine
end

