-- ==== Sys2Proof/Machine/SettingRequests.lean ====
section
/-! DEFINITION. The requests that set the part up: SET_TIMING, SET_SITES, SET_CHANNELS, SET_OUTPUTS, CLEAR_INTERLOCK,
READ_NODES and CLEAR_CLOSE_COUNTS (chapters 2, 3 and 9). -/

namespace Sys2Proof.Machine

/-- The run is IDLE. -/
def State.runIdle (s : State) : Bool := s.run.state = .idle

/-- A relay time clamped into 50..5000 (R40). -/
def clampRelayTime (t : Nat) : Nat := clampNat Config.relayTimeMin Config.relayTimeMax t

/-- SET_TIMING (R40). -/
def serveSetTiming (p : List Byte) (s : State) : Answer :=
  match twoWords p with
  | none => refuse s .length
  | some (op, rel) =>
    if !s.runIdle || decide (s.relays.queue ≠ []) then refuse s .state
    else
      accept (s.withRelays { s.relays with tOp := clampRelayTime op, tRel := clampRelayTime rel })
        (leBytes 2 (clampRelayTime op) ++ leBytes 2 (clampRelayTime rel))

/-- The Site Table of an accepted SET_SITES: the bases in site order, 0 beyond the count, every site OFF (R22). -/
def siteTableOf (count : Nat) (bases : List Nat) : SiteTable :=
  let e (i : Nat) : SiteEntry := { base := bases.getD i 0, state := .off, skipped := 0 }
  { count := count, entries := ⟨e 0, e 1, e 2, e 3, e 4, e 5, e 6, e 7⟩ }

/-- SET_SITES (R22). -/
def serveSetSites (p : List Byte) (s : State) : Answer :=
  match decodeSites p with
  | none => refuse s .length
  | some (count, bases) =>
    if count < 1 || 8 < count || bases.any (fun n => Config.nodeCount ≤ n) then refuse s .range
    else if !s.runIdle || decide (s.plan.a.state ≠ .empty) || decide (s.plan.b.state ≠ .empty) then refuse s .state
    else accept (s.withSites (siteTableOf count bases)) (byte count :: bases.flatMap (leBytes 2))

/-- SET_CHANNELS (R157). -/
def serveSetChannels (p : List Byte) (s : State) : Answer :=
  match oneByte p with
  | none => refuse s .length
  | some mask =>
    if mask = 0 || decide (16 ≤ mask.toNat) then refuse s .range
    else if !s.runIdle then refuse s .state
    else accept (s.withRun { s.run with enabled := mask.setWidth 4 }) [mask]

/-- The four levels of a SET_OUTPUTS, bit n the level of FXOn; `none` where a level is neither low nor high (R161). -/
def outputLevels (l : Byte × Byte × Byte × Byte) : Option (BitVec 4) :=
  match twoWay l.1, twoWay l.2.1, twoWay l.2.2.1, twoWay l.2.2.2 with
  | some a, some b, some c, some d => some (BitVec.ofNat 4 (bit a + 2 * bit b + 4 * bit c + 8 * bit d))
  | _, _, _, _ => none

/-- The output levels, one byte each, FXO0 first (R183). -/
def outputBytes (o : BitVec 4) : List Byte := [0, 1, 2, 3].map fun i => flagByte (o.getLsbD i)

/-- SET_OUTPUTS (R161). -/
def serveSetOutputs (p : List Byte) (s : State) : Answer :=
  match fourBytes p with
  | none => refuse s .length
  | some l =>
    match outputLevels l with
    | none => refuse s .range
    | some o => accept (s.withRun { s.run with outputs := o }) (outputBytes o)

/-- CLEAR_INTERLOCK (R160): both lines, VAC_OK first. -/
def serveClearInterlock (p : List Byte) (s : State) : Answer :=
  match noOperand p with
  | none => refuse s .length
  | some _ =>
    let t := (s.clearLatch .vacOk).clearLatch .lidDown
    accept t [senseByte t.run]

/-- The nodes READ_NODES reports: consecutive from the start, stopping at node 4095 (R55). -/
def reportedNodes (start count : Nat) : List Node :=
  (List.range (min count (Config.nodeCount - start))).map fun i => start + i

/-- READ_NODES (R55). -/
def serveReadNodes (p : List Byte) (s : State) : Answer :=
  match wordByte p with
  | none => refuse s .length
  | some (start, count) =>
    if Config.nodeCount ≤ start then refuse s .range
    else
      let ns := reportedNodes start (clampNat 1 128 count.toNat)
      accept s (leBytes 2 start ++ byte ns.length :: ns.flatMap fun n => nodeBytes (s.relays.nodes.get n))

/-- A node's entry after CLEAR_CLOSE_COUNTS over a range (R56). -/
def clearCount (first last : Nat) (n : Node) (e : NodeEntry) : NodeEntry :=
  if first ≤ n ∧ n ≤ last then { e with closeCount := 0 } else e

/-- CLEAR_CLOSE_COUNTS (R56). -/
def serveClearCloseCounts (p : List Byte) (s : State) : Answer :=
  match twoWords p with
  | none => refuse s .length
  | some (first, last) =>
    if Config.nodeCount ≤ last || decide (last < first) then refuse s .range
    else accept (s.withNodes (s.relays.nodes.rewrite (clearCount first last))) (leBytes 2 first ++ leBytes 2 last)

end Sys2Proof.Machine
end

