-- ==== Sys2Proof/Machine/RunRequests.lean ====
section
/-! DEFINITION. The requests of Run Control and the dispatcher: START_RUN, PAUSE_RUN, RESUME_RUN, ABORT_RUN, END_RUN and
RETIRE_SITE (chapters 2, 4 and 9). -/

namespace Sys2Proof.Machine

/-- A site's entry at the start of a run: ACTIVE where the mask names it, else OFF; reason and count cleared (R24). -/
def startSite (mask : Byte) (i : Nat) (e : SiteEntry) : SiteEntry :=
  { e with state := if mask.getLsbD i then .active else .off, skipped := 0 }

/-- The Site Table at the start of a run (R24). -/
def SiteTable.start (t : SiteTable) (mask : Byte) : SiteTable :=
  { t with
    entries := ⟨startSite mask 0 t.entries.e0, startSite mask 1 t.entries.e1, startSite mask 2 t.entries.e2,
      startSite mask 3 t.entries.e3, startSite mask 4 t.entries.e4, startSite mask 5 t.entries.e5,
      startSite mask 6 t.entries.e6, startSite mask 7 t.entries.e7⟩ }

/-- Checks 2 to 7 of START_RUN, in order (R149). -/
def State.startRefusal (s : State) (mask : Byte) : Option Status :=
  if !s.runIdle then some .state
  else if s.plan.a.state ≠ .armed then some .state
  else if mask = 0 || decide (2 ^ s.sites.count ≤ mask.toNat) then some .range
  else if s.run.enabled = 0 then some .state
  else if Config.normalPostLimit < s.results.records.length then some .state
  else if s.run.vac.latch || s.run.lid.latch then some .interlocked
  else none

/-- The run begins (R150): ACTIVE, the sites set, the fetch in bank A, the window filled. -/
def State.startRun (s : State) (mask : Byte) : State :=
  ((((s.withRun { s.run with state := .active }).withSites (s.sites.start mask)).enterBank .a).closeEvent).fill

/-- START_RUN (R149, R150). -/
def serveStartRun (p : List Byte) (s : State) : Answer :=
  match oneByte p with
  | none => refuse s .length
  | some mask =>
    match s.startRefusal mask with
    | some code => refuse s code
    | none => accept (s.startRun mask) []

/-- Dispatch is paused: every entry shows PAUSED (R76). -/
def State.pause (s : State) : State :=
  s.withDisp { s.disp with
    paused := true, window := s.disp.window.map fun e => { e with reason := .paused } }

/-- PAUSE_RUN (R76). -/
def servePauseRun (p : List Byte) (s : State) : Answer :=
  match noOperand p with
  | none => refuse s .length
  | some _ => if !s.active then refuse s .state else if s.disp.paused then accept s [] else accept s.pause []

/-- Dispatch resumes: the window is examined (R77). -/
def State.resume (s : State) : State := ((s.withDisp { s.disp with paused := false }).noteExam).closeEvent

/-- RESUME_RUN (R77). -/
def serveResumeRun (p : List Byte) (s : State) : Answer :=
  match noOperand p with
  | none => refuse s .length
  | some _ => if !s.active then refuse s .state else if s.disp.paused then accept s.resume [] else accept s []

/-- ABORT_RUN (R155). -/
def serveAbortRun (p : List Byte) (s : State) : Answer :=
  match noOperand p with
  | none => refuse s .length
  | some _ => if s.active then accept (s.halt .station) [] else refuse s .state

/-- The run is DONE or HALTED. -/
def State.runOver (s : State) : Bool :=
  match s.run.state with
  | .done => true
  | .halted _ => true
  | .idle => false
  | .active => false

/-- The run is closed (R156): both banks EMPTY, the window empty, the fetch IDLE, paused and starved clear, run IDLE. -/
def State.endRun (s : State) : State :=
  ((s.withPlan { a := .reset, b := .reset }).withDisp .reset).withRun { s.run with state := .idle }

/-- END_RUN (R156). -/
def serveEndRun (p : List Byte) (s : State) : Answer :=
  match noOperand p with
  | none => refuse s .length
  | some _ => if s.runOver then accept s.endRun [] else refuse s .state

/-- The configured site a RETIRE_SITE names; `none` above 7 and at or beyond the site count (R33). -/
def State.siteNamed (s : State) (v : Byte) : Option (Fin 8) :=
  allEight.find? fun i => decide (i.val = v.toNat) && decide (i.val < s.sites.count)

/-- The station retires an ACTIVE site; what the retirement starts is done before the reply (R34). Any other site is
left as it is. -/
def State.stationRetire (s : State) (i : Fin 8) : State :=
  if s.siteState i = .active then ((s.retire i .station).closeEvent).fill else s

/-- RETIRE_SITE (R33). -/
def serveRetireSite (p : List Byte) (s : State) : Answer :=
  match oneByte p with
  | none => refuse s .length
  | some v =>
    match s.siteNamed v with
    | none => refuse s .range
    | some i =>
      if s.siteState i = .off then refuse s .range
      else
        let t := s.stationRetire i
        accept t ([siteStateCode (t.siteState i), retireReasonCode (t.siteState i)] ++
          leBytes 2 (t.sites.entries.get i).skipped)

end Sys2Proof.Machine
end

