-- ==== Sys2Proof/Machine/Service.lean ====
section
/-! DEFINITION. The service of requests (R168): a well-formed frame enters the request slot, and the request in the slot
is served, checked and answered, in one event. -/

namespace Sys2Proof.Machine

/-- A request's own checks and effect. -/
def handle (r : Request) (p : List Byte) (s : State) : Answer :=
  match r with
  | .readStatus => serveReadStatus p s
  | .resync => serveResync p s
  | .resetPart => serveResetPart p s
  | .setTiming => serveSetTiming p s
  | .setSites => serveSetSites p s
  | .setChannels => serveSetChannels p s
  | .setNotices => serveSetNotices p s
  | .clearNotice => serveClearNotice p s
  | .setOutputs => serveSetOutputs p s
  | .clearInterlock => serveClearInterlock p s
  | .loadSteps => serveLoadSteps p s
  | .armBank => serveArmBank p s
  | .clearBank => serveClearBank p s
  | .startRun => serveStartRun p s
  | .pauseRun => servePauseRun p s
  | .resumeRun => serveResumeRun p s
  | .abortRun => serveAbortRun p s
  | .endRun => serveEndRun p s
  | .retireSite => serveRetireSite p s
  | .readResults => serveReadResults p s
  | .readNodes => serveReadNodes p s
  | .clearCloseCounts => serveClearCloseCounts p s
  | .setCounter => serveSetCounter p s
  | .readCounters => serveReadCounters p s
  | .clearOverflow => serveClearOverflow p s
  | .freezeCounters => serveFreezeCounters p s

/-- The kind of the reply to a request (R178). -/
def replyKind (r : Request) : Byte := requestCode r + 0x80

/-- The kind of the reply to a request of an unknown kind (R168). -/
def unknownReplyKind : Byte := 0xFE

/-- A request frame is served: the checks of R168 in order, the request's effects, and its reply formed at the end. -/
def State.serveFrame (s : State) (f : Frame) : State :=
  match requestOf f.kind with
  | none => s.formReply unknownReplyKind f.tag (refuse s (if s.link.fault then .faulted else .unknown))
  | some r =>
    if s.link.fault && decide (r ≠ .resync) then s.formReply (replyKind r) f.tag (refuse s .faulted)
    else (handle r f.payload s).state.formReply (replyKind r) f.tag (handle r f.payload s)

/-- The request in the slot is served where no reply is waiting and none is being sent; serving empties the slot
(R168). -/
def State.serveSlot (s : State) : State :=
  match s.link.slot with
  | none => s
  | some f => if s.link.ready then (s.withLink { s.link with slot := none }).serveFrame f else s

/-- A frame whose bytes have all arrived: a payload above the limit is a length error and a full slot an overrun, each a
frame error (R167); otherwise the frame enters the request slot, and is served at once where that is allowed
(R165, R168). -/
def State.deliver (f : Frame) (s : State) : State :=
  if Config.maxPayload < f.payload.length then s.withLink s.link.countError
  else if s.link.slot.isSome then s.withLink s.link.countError
  else (s.withLink { s.link with slot := some f }).serveSlot

/-- One character reaches the frame receiver (R165). -/
def State.receiveByte (b : Byte) (s : State) : State :=
  match s.link.receiver with
  | .hunting => if b = startByte then s.withLink { s.link with receiver := .inFrame [] s.time } else s
  | .inFrame got _ =>
    match received (got ++ [b]) with
    | .more => s.withLink { s.link with receiver := .inFrame (got ++ [b]) s.time }
    | .lengthError => s.withLink s.link.frameError
    | .crcError => s.withLink s.link.frameError
    | .complete f => (s.withLink { s.link with receiver := .hunting }).deliver f

/-- The last byte of the frame being sent goes out (R170): a SET_NOTICES mask takes effect, the next frame starts, and
then a request that waited for the reply's end is served (R168; log entry 11). -/
def State.transmitComplete (s : State) : State :=
  match s.link.sending with
  | none => s
  | some o => (s.withLink (s.link.frameSent o).startFrame).serveSlot

end Sys2Proof.Machine
end

