-- ==== Sys2Proof/Machine/LinkEvents.lean ====
section
/-! DEFINITION. The meanings of the power-on and link rows: POWER_ON, RECEIVE_BYTE, GAP_TIMER_EXPIRY, UNKNOWN_KIND,
TRANSMIT_COMPLETE. An event whose condition does not hold does not take place and changes nothing (log entry 12). -/

namespace Sys2Proof.Machine

/-- POWER_ON (R163): every block in its initial state; the command queue is not the part's and stays. -/
def execPowerOn (vacOk lidDown : Bool) (s : State) : Host.Outcome State Fault Refusal :=
  event (fun t => (State.powerOn vacOk lidDown).withPending t.pending) s

/-- RECEIVE_BYTE (R165). -/
def execReceiveByte (b : Byte) (s : State) : Host.Outcome State Fault Refusal := event (State.receiveByte b) s

/-- The gap timer has run for 100 µs inside a frame (R167). -/
def State.gapExpired (s : State) : Bool :=
  match s.link.receiver with
  | .hunting => false
  | .inFrame _ last => decide (Config.gapLimit ≤ elapsed last s.time)

/-- GAP_TIMER_EXPIRY (R167): the frame is truncated. -/
def execGapTimerExpiry (s : State) : Host.Outcome State Fault Refusal :=
  event (fun t => if t.gapExpired then t.withLink t.link.frameError else t) s

/-- UNKNOWN_KIND (R168): the frame enters the slot and is answered with kind 0xFE. -/
def execUnknownKind (kind tag : Byte) (payload : List Byte) (s : State) : Host.Outcome State Fault Refusal :=
  event (State.deliver { kind := kind, tag := tag, payload := payload }) s

/-- TRANSMIT_COMPLETE (R170). -/
def execTransmitComplete (s : State) : Host.Outcome State Fault Refusal := event State.transmitComplete s

end Sys2Proof.Machine
end

