-- ==== Sys2Proof/Machine/RelayEvents.lean ====
section
/-! DEFINITION. The meanings of OPERATE_EXPIRY and RELEASE_ENTRY_EXPIRY. -/

namespace Sys2Proof.Machine

/-- A CLOSING node of channel c becomes HELD, keeping its line (R43). -/
def holdNode (c : Chan) (t : NodeTable) (n : Node) : NodeTable :=
  match t.state n with
  | .closing d l => if d = c then t.setState n (.held d l) else t
  | _ => t

/-- A channel's close batch has reached its operate expiry. -/
def State.batchDue (s : State) (c : Chan) : Bool :=
  match s.relays.batches.get c with
  | some b => reached b.expiry s.time
  | none => false

/-- The operate expiry of channel c's close batch (R43): its nodes HELD, the batch discarded, the connection made. -/
def State.operateExpiry (s : State) (c : Chan) : State :=
  match s.relays.batches.get c with
  | none => s
  | some b =>
    let t := s.withRelays { s.relays with
      nodes := b.nodes.foldl (holdNode c) s.relays.nodes, batches := s.relays.batches.set c none }
    match (s.chan c).running with
    | none => t
    | some k => t.connectionMade c k

/-- OPERATE_EXPIRY (R43). -/
def execOperateExpiry (ch : Chan) (s : State) : Host.Outcome State Fault Refusal :=
  event (fun t => if t.batchDue ch then t.operateExpiry ch else t) s

/-- The oldest release-queue entry has reached its expiry (R48). -/
def State.entryDue (s : State) : Bool :=
  match s.relays.queue with
  | e :: _ => reached e.expiry s.time
  | [] => false

/-- The channel waits for its DISPATCH entry (R83). -/
def State.awaitsRelease (s : State) (c : Chan) : Bool :=
  (s.chan c).running.any fun k => k.phase = .connecting .release

/-- The owner of an expired DISPATCH entry begins its close phase in the same event, and a halt that its CLOSE event
asks for is taken after that close phase (R48, R139). -/
def State.closeAfter (s : State) (e : ReleaseEntry) : State :=
  match e.cause, e.owner with
  | .dispatch, some c => if s.awaitsRelease c then (s.closePhase c).takeAskedHalt else s
  | _, _ => s

/-- The expiry of the oldest entry (R48): its nodes FREE, its channel's close phase, the slot handed on, the window
examined. -/
def State.releaseExpiry (s : State) : State :=
  match s.relays.queue with
  | [] => s
  | e :: _ =>
    let t := (s.freeEntry e).closeAfter e
    ((grantSlot t.relays.waitList t).noteExam).closeEvent

/-- RELEASE_ENTRY_EXPIRY (R48). -/
def execReleaseEntryExpiry (s : State) : Host.Outcome State Fault Refusal :=
  event (fun t => if t.entryDue then t.releaseExpiry else t) s

end Sys2Proof.Machine
end

