-- ==== Sys2Proof/Machine/RequestCommands.lean ====
section
/-! DEFINITION. The meanings of the request rows. A request command is its complete, well-formed frame reaching the
request slot: it is served in that event where no reply is waiting or being sent, and otherwise waits in the slot or
overruns it (R165, R167, R168; log entry 13). What serving it does is its serve definition, one for each request. -/

namespace Sys2Proof.Machine

/-- A request's frame is delivered. -/
def execRequest (r : Request) (tag : Byte) (payload : List Byte) (s : State) : Host.Outcome State Fault Refusal :=
  event (State.deliver { kind := requestCode r, tag := tag, payload := payload }) s

/-- READ_STATUS (R175): `serveReadStatus`. -/
def execReadStatus (tag : Byte) (payload : List Byte) (s : State) : Host.Outcome State Fault Refusal :=
  execRequest .readStatus tag payload s

/-- RESYNC (R169): `serveResync`. -/
def execResync (tag : Byte) (payload : List Byte) (s : State) : Host.Outcome State Fault Refusal :=
  execRequest .resync tag payload s

/-- RESET_PART (R162): `serveResetPart`. -/
def execResetPart (tag : Byte) (payload : List Byte) (s : State) : Host.Outcome State Fault Refusal :=
  execRequest .resetPart tag payload s

/-- SET_TIMING (R40): `serveSetTiming`. -/
def execSetTiming (tag : Byte) (payload : List Byte) (s : State) : Host.Outcome State Fault Refusal :=
  execRequest .setTiming tag payload s

/-- SET_SITES (R22): `serveSetSites`. -/
def execSetSites (tag : Byte) (payload : List Byte) (s : State) : Host.Outcome State Fault Refusal :=
  execRequest .setSites tag payload s

/-- SET_CHANNELS (R157): `serveSetChannels`. -/
def execSetChannels (tag : Byte) (payload : List Byte) (s : State) : Host.Outcome State Fault Refusal :=
  execRequest .setChannels tag payload s

/-- SET_NOTICES (R174): `serveSetNotices`. -/
def execSetNotices (tag : Byte) (payload : List Byte) (s : State) : Host.Outcome State Fault Refusal :=
  execRequest .setNotices tag payload s

/-- CLEAR_NOTICE (R173): `serveClearNotice`. -/
def execClearNotice (tag : Byte) (payload : List Byte) (s : State) : Host.Outcome State Fault Refusal :=
  execRequest .clearNotice tag payload s

/-- SET_OUTPUTS (R161): `serveSetOutputs`. -/
def execSetOutputs (tag : Byte) (payload : List Byte) (s : State) : Host.Outcome State Fault Refusal :=
  execRequest .setOutputs tag payload s

/-- CLEAR_INTERLOCK (R160): `serveClearInterlock`. -/
def execClearInterlock (tag : Byte) (payload : List Byte) (s : State) : Host.Outcome State Fault Refusal :=
  execRequest .clearInterlock tag payload s

/-- LOAD_STEPS (R11): `serveLoadSteps`. -/
def execLoadSteps (tag : Byte) (payload : List Byte) (s : State) : Host.Outcome State Fault Refusal :=
  execRequest .loadSteps tag payload s

/-- ARM_BANK (R14): `serveArmBank`. -/
def execArmBank (tag : Byte) (payload : List Byte) (s : State) : Host.Outcome State Fault Refusal :=
  execRequest .armBank tag payload s

/-- CLEAR_BANK (R19): `serveClearBank`. -/
def execClearBank (tag : Byte) (payload : List Byte) (s : State) : Host.Outcome State Fault Refusal :=
  execRequest .clearBank tag payload s

/-- START_RUN (R150): `serveStartRun`. -/
def execStartRun (tag : Byte) (payload : List Byte) (s : State) : Host.Outcome State Fault Refusal :=
  execRequest .startRun tag payload s

/-- PAUSE_RUN (R76): `servePauseRun`. -/
def execPauseRun (tag : Byte) (payload : List Byte) (s : State) : Host.Outcome State Fault Refusal :=
  execRequest .pauseRun tag payload s

/-- RESUME_RUN (R77): `serveResumeRun`. -/
def execResumeRun (tag : Byte) (payload : List Byte) (s : State) : Host.Outcome State Fault Refusal :=
  execRequest .resumeRun tag payload s

/-- ABORT_RUN (R155): `serveAbortRun`. -/
def execAbortRun (tag : Byte) (payload : List Byte) (s : State) : Host.Outcome State Fault Refusal :=
  execRequest .abortRun tag payload s

/-- END_RUN (R156): `serveEndRun`. -/
def execEndRun (tag : Byte) (payload : List Byte) (s : State) : Host.Outcome State Fault Refusal :=
  execRequest .endRun tag payload s

/-- RETIRE_SITE (R33): `serveRetireSite`. -/
def execRetireSite (tag : Byte) (payload : List Byte) (s : State) : Host.Outcome State Fault Refusal :=
  execRequest .retireSite tag payload s

/-- READ_RESULTS (R126): `serveReadResults`. -/
def execReadResults (tag : Byte) (payload : List Byte) (s : State) : Host.Outcome State Fault Refusal :=
  execRequest .readResults tag payload s

/-- READ_NODES (R55): `serveReadNodes`. -/
def execReadNodes (tag : Byte) (payload : List Byte) (s : State) : Host.Outcome State Fault Refusal :=
  execRequest .readNodes tag payload s

/-- CLEAR_CLOSE_COUNTS (R56): `serveClearCloseCounts`. -/
def execClearCloseCounts (tag : Byte) (payload : List Byte) (s : State) : Host.Outcome State Fault Refusal :=
  execRequest .clearCloseCounts tag payload s

/-- SET_COUNTER (R142): `serveSetCounter`. -/
def execSetCounter (tag : Byte) (payload : List Byte) (s : State) : Host.Outcome State Fault Refusal :=
  execRequest .setCounter tag payload s

/-- READ_COUNTERS (R144): `serveReadCounters`. -/
def execReadCounters (tag : Byte) (payload : List Byte) (s : State) : Host.Outcome State Fault Refusal :=
  execRequest .readCounters tag payload s

/-- CLEAR_OVERFLOW (R145): `serveClearOverflow`. -/
def execClearOverflow (tag : Byte) (payload : List Byte) (s : State) : Host.Outcome State Fault Refusal :=
  execRequest .clearOverflow tag payload s

/-- FREEZE_COUNTERS (R146): `serveFreezeCounters`. -/
def execFreezeCounters (tag : Byte) (payload : List Byte) (s : State) : Host.Outcome State Fault Refusal :=
  execRequest .freezeCounters tag payload s

end Sys2Proof.Machine
end

