-- ==== Sys2Proof/Machine/RunEvents.lean ====
section
/-! DEFINITION. The meanings of FETCH_APPEND, BANK_DONE, RUN_DONE and MONITOR_TICK. -/

namespace Sys2Proof.Machine

/-- FETCH_APPEND (R27): one making of the fetch and the examination it starts, where the conditions of R26 hold. -/
def execFetchAppend (s : State) : Host.Outcome State Fault Refusal :=
  event (fun t => if t.canMake then t.fetchMake.closeEvent else t) s

/-- BANK_DONE (R17): the named bank's drain, where its condition holds. -/
def execBankDone (bank : BankId) (s : State) : Host.Outcome State Fault Refusal :=
  event (fun t => t.drainIfDone bank) s

/-- RUN_DONE (R151): the completion of the run, where its condition holds. -/
def execRunDone (s : State) : Host.Outcome State Fault Refusal := event State.testDone s

/-- The monitor tick falls now and has not been taken (R134). -/
def State.tickDue (s : State) : Bool := decide (s.time.toNat % 4 = 0) && !s.tickTaken

/-- MONITOR_TICK (R134): at a Time Base multiple of 4, once. -/
def execMonitorTick (s : State) : Host.Outcome State Fault Refusal :=
  event (fun t => if t.tickDue then ({ t with tickTaken := true } : State).tickCounters.closeEvent else t) s

end Sys2Proof.Machine
end

