-- ==== Sys2Proof/Machine/SampleEvents.lean ====
section
/-! DEFINITION. The meanings of CHANNEL_SAMPLE and of the four rows that name what a sample decides: DEADLINE_EXPIRY,
SETTLED, ACQUISITION_COMPLETE, DWELL_COMPLETE. A sample's event is taken whole (R85, R105), so each of the four is the
sample event of a sample of its kind, and changes nothing where the sample is of another kind (log entry 14). -/

namespace Sys2Proof.Machine

/-- CHANNEL_SAMPLE (R81). -/
def execChannelSample (ch : Chan) (code : SampleCode) (s : State) : Host.Outcome State Fault Refusal :=
  event (fun t => t.sample ch code.toInt) s

/-- DEADLINE_EXPIRY (R107). -/
def execDeadlineExpiry (ch : Chan) (code : SampleCode) (s : State) : Host.Outcome State Fault Refusal :=
  event (fun t => t.sampleIf ch code.toInt .expire) s

/-- SETTLED (R106). -/
def execSettled (ch : Chan) (code : SampleCode) (s : State) : Host.Outcome State Fault Refusal :=
  event (fun t => t.sampleIf ch code.toInt .settle) s

/-- ACQUISITION_COMPLETE (R112). -/
def execAcquisitionComplete (ch : Chan) (code : SampleCode) (s : State) : Host.Outcome State Fault Refusal :=
  event (fun t => t.sampleIf ch code.toInt .complete) s

/-- DWELL_COMPLETE (R89): the sample's value does not matter. -/
def execDwellComplete (ch : Chan) (s : State) : Host.Outcome State Fault Refusal :=
  event (fun t => t.sampleIf ch 0 .dwellDone) s

end Sys2Proof.Machine
end

