-- ==== Sys2Proof/Machine/Dispatch.lean ====
section
/-! DEFINITION. Each command's meaning, one arm for each row of spec/opcode_table.json. -/

namespace Sys2Proof.Machine

def exec (i : Instr) (s : State) : Host.Outcome State Fault Refusal :=
  match i with
  | .powerOn vacOk lidDown => Sys2Proof.Machine.execPowerOn vacOk lidDown s
  | .receiveByte b => Sys2Proof.Machine.execReceiveByte b s
  | .gapTimerExpiry => Sys2Proof.Machine.execGapTimerExpiry s
  | .unknownKind kind tag payload => Sys2Proof.Machine.execUnknownKind kind tag payload s
  | .transmitComplete => Sys2Proof.Machine.execTransmitComplete s
  | .readStatus tag payload => Sys2Proof.Machine.execReadStatus tag payload s
  | .resync tag payload => Sys2Proof.Machine.execResync tag payload s
  | .resetPart tag payload => Sys2Proof.Machine.execResetPart tag payload s
  | .setTiming tag payload => Sys2Proof.Machine.execSetTiming tag payload s
  | .setSites tag payload => Sys2Proof.Machine.execSetSites tag payload s
  | .setChannels tag payload => Sys2Proof.Machine.execSetChannels tag payload s
  | .setNotices tag payload => Sys2Proof.Machine.execSetNotices tag payload s
  | .clearNotice tag payload => Sys2Proof.Machine.execClearNotice tag payload s
  | .setOutputs tag payload => Sys2Proof.Machine.execSetOutputs tag payload s
  | .clearInterlock tag payload => Sys2Proof.Machine.execClearInterlock tag payload s
  | .loadSteps tag payload => Sys2Proof.Machine.execLoadSteps tag payload s
  | .armBank tag payload => Sys2Proof.Machine.execArmBank tag payload s
  | .clearBank tag payload => Sys2Proof.Machine.execClearBank tag payload s
  | .startRun tag payload => Sys2Proof.Machine.execStartRun tag payload s
  | .pauseRun tag payload => Sys2Proof.Machine.execPauseRun tag payload s
  | .resumeRun tag payload => Sys2Proof.Machine.execResumeRun tag payload s
  | .abortRun tag payload => Sys2Proof.Machine.execAbortRun tag payload s
  | .endRun tag payload => Sys2Proof.Machine.execEndRun tag payload s
  | .retireSite tag payload => Sys2Proof.Machine.execRetireSite tag payload s
  | .readResults tag payload => Sys2Proof.Machine.execReadResults tag payload s
  | .readNodes tag payload => Sys2Proof.Machine.execReadNodes tag payload s
  | .clearCloseCounts tag payload => Sys2Proof.Machine.execClearCloseCounts tag payload s
  | .setCounter tag payload => Sys2Proof.Machine.execSetCounter tag payload s
  | .readCounters tag payload => Sys2Proof.Machine.execReadCounters tag payload s
  | .clearOverflow tag payload => Sys2Proof.Machine.execClearOverflow tag payload s
  | .freezeCounters tag payload => Sys2Proof.Machine.execFreezeCounters tag payload s
  | .fetchAppend => Sys2Proof.Machine.execFetchAppend s
  | .bankDone bank => Sys2Proof.Machine.execBankDone bank s
  | .operateExpiry ch => Sys2Proof.Machine.execOperateExpiry ch s
  | .releaseEntryExpiry => Sys2Proof.Machine.execReleaseEntryExpiry s
  | .channelSample ch code => Sys2Proof.Machine.execChannelSample ch code s
  | .deadlineExpiry ch code => Sys2Proof.Machine.execDeadlineExpiry ch code s
  | .settled ch code => Sys2Proof.Machine.execSettled ch code s
  | .acquisitionComplete ch code => Sys2Proof.Machine.execAcquisitionComplete ch code s
  | .dwellComplete ch => Sys2Proof.Machine.execDwellComplete ch s
  | .runDone => Sys2Proof.Machine.execRunDone s
  | .monitorTick => Sys2Proof.Machine.execMonitorTick s
  | .senseLineChange line present => Sys2Proof.Machine.execSenseLineChange line present s
  | .qualificationExpiry line => Sys2Proof.Machine.execQualificationExpiry line s

end Sys2Proof.Machine
end

