-- ==== Sys2Proof/Machine/Idle.lean ====
section
/-! DEFINITION. What the part does with no command waiting: the event of its own that is due now, if any, or else one
microsecond of the Time Base (log entry 15). -/

namespace Sys2Proof.Machine

/-- The events of the part itself, in the order they are taken where several are due at one moment; the spec lets either
be taken first. -/
def ownEvents : List Instr :=
  [.gapTimerExpiry, .operateExpiry 0, .operateExpiry 1, .operateExpiry 2, .operateExpiry 3, .releaseEntryExpiry,
   .qualificationExpiry .vacOk, .qualificationExpiry .lidDown, .fetchAppend, .monitorTick]

/-- An event of the part itself is due now. -/
def State.due (s : State) (i : Instr) : Bool :=
  match i with
  | .gapTimerExpiry => s.gapExpired
  | .operateExpiry c => s.batchDue c
  | .releaseEntryExpiry => s.entryDue
  | .qualificationExpiry l => (s.sense l).qualified s.time
  | .fetchAppend => s.canMake
  | .monitorTick => s.tickDue
  | _ => false

/-- The first own event that is due. -/
def State.dueEvent (s : State) : Option Instr := ownEvents.find? s.due

/-- One microsecond passes: the Time Base counts, wrapping modulo 2^32. -/
def State.advance (s : State) : State := { s with time := s.time + 1, tickTaken := false }

end Sys2Proof.Machine
end

