-- ==== Sys2Proof/WellFormed.lean ====
section
/-! DEFINITION. Which commands are well formed: what the types do not already say. A request's payload fits a frame
(R165), and UNKNOWN_KIND names a kind outside the table of R178. The machine gives the other terms a meaning too (a
payload above 1024 bytes is the length error of R167; a known kind is that request), so no command is refused. -/

namespace Sys2Proof

/-- The request kinds of R178. -/
def requestKinds : List Byte :=
  [0x01, 0x02, 0x03, 0x10, 0x11, 0x12, 0x13, 0x14, 0x15, 0x16, 0x20, 0x21, 0x22,
   0x30, 0x31, 0x32, 0x33, 0x34, 0x35, 0x40, 0x41, 0x42, 0x50, 0x51, 0x52, 0x53]

/-- The payload of a command that is a request frame. -/
def Instr.payload? : Instr → Option (List Byte)
  | .unknownKind _ _ p => some p
  | .readStatus _ p => some p
  | .resync _ p => some p
  | .resetPart _ p => some p
  | .setTiming _ p => some p
  | .setSites _ p => some p
  | .setChannels _ p => some p
  | .setNotices _ p => some p
  | .clearNotice _ p => some p
  | .setOutputs _ p => some p
  | .clearInterlock _ p => some p
  | .loadSteps _ p => some p
  | .armBank _ p => some p
  | .clearBank _ p => some p
  | .startRun _ p => some p
  | .pauseRun _ p => some p
  | .resumeRun _ p => some p
  | .abortRun _ p => some p
  | .endRun _ p => some p
  | .retireSite _ p => some p
  | .readResults _ p => some p
  | .readNodes _ p => some p
  | .clearCloseCounts _ p => some p
  | .setCounter _ p => some p
  | .readCounters _ p => some p
  | .clearOverflow _ p => some p
  | .freezeCounters _ p => some p
  | .powerOn _ _ => none
  | .receiveByte _ => none
  | .gapTimerExpiry => none
  | .transmitComplete => none
  | .fetchAppend => none
  | .bankDone _ => none
  | .operateExpiry _ => none
  | .releaseEntryExpiry => none
  | .channelSample _ _ => none
  | .deadlineExpiry _ _ => none
  | .settled _ _ => none
  | .acquisitionComplete _ _ => none
  | .dwellComplete _ => none
  | .runDone => none
  | .monitorTick => none
  | .senseLineChange _ _ => none
  | .qualificationExpiry _ => none

/-- The payload of a request frame holds at most 1024 bytes (R165). -/
def Instr.payloadFits (i : Instr) : Bool :=
  match i.payload? with
  | some p => decide (p.length ≤ Config.maxPayload)
  | none => true

/-- UNKNOWN_KIND names a kind that is not one of the requests of the part (R168, R178). -/
def Instr.kindUnknown (i : Instr) : Bool :=
  match i with
  | .unknownKind k _ _ => !(requestKinds.contains k)
  | _ => true

/-- The well-formed commands. -/
def Instr.wellFormed (i : Instr) : Bool := i.payloadFits && i.kindUnknown

end Sys2Proof
end

