-- ==== Sys2Proof/Safety.lean ====
section
/-! DEFINITION. What counts as a sound state and a safe run, in the terms the statements use: the invariants every step
keeps, and the reply a served request leaves on the link. -/

namespace Sys2Proof.Machine

/-! ## Invariants -/

/-- The state of a channel, `none` for IDLE (R80). -/
def State.phaseOf (s : State) (c : Chan) : Option Phase := (s.chan c).running.map Running.phase

/-- The Result Queue holds at most 256 records, and at most 252 while the run is ACTIVE, so that the four reserve places
are free at a halt (R98, R124). -/
abbrev State.resultsBounded (s : State) : Prop :=
  s.results.records.length ≤ 256 ∧ (s.run.state = .active → s.results.records.length ≤ 252)

/-- The window holds at most 16 instances (R57). -/
abbrev State.windowBounded (s : State) : Prop := s.disp.window.length ≤ 16

/-- The release queue holds at most 8 entries, and exactly 8 whenever an append waits (R46, R49). -/
abbrev State.queueBounded (s : State) : Prop :=
  s.relays.queue.length ≤ 8 ∧ (s.relays.waitList ≠ [] → s.relays.queue.length = 8)

/-- The fields of limited range hold values in their ranges (R21, R39, R129, R164). -/
abbrev State.rangesHold (s : State) : Prop :=
  (50 ≤ s.relays.tOp ∧ s.relays.tOp ≤ 5000) ∧ (50 ≤ s.relays.tRel ∧ s.relays.tRel ≤ 5000) ∧
    (1 ≤ s.link.watermark ∧ s.link.watermark ≤ 256) ∧ s.link.errorCount ≤ 65535 ∧
    (1 ≤ s.sites.count ∧ s.sites.count ≤ 8) ∧ ∀ i : Fin 8, (s.sites.entries.get i).skipped ≤ 65535

/-- The capacities and ranges of 00_scope.md hold. -/
abbrev State.bounded (s : State) : Prop :=
  s.resultsBounded ∧ s.windowBounded ∧ s.queueBounded ∧ s.rangesHold

/-- A channel measures: it is in SETTLING or ACQUIRING. -/
abbrev State.measuring (s : State) (c : Chan) : Prop :=
  s.phaseOf c = some .settling ∨ s.phaseOf c = some .acquiring

/-- The channels whose COMPLETE release waits for a slot, in the order they joined. -/
def State.completeWaits (s : State) : List Chan :=
  (s.relays.waitList.filter fun w => w.cause = .complete).map WaitItem.ch

/-- A stimulus is on only in SETTLING or ACQUIRING (R82); a channel waiting for its COMPLETE append is in RELEASING and
waits once (R49); a close batch belongs to a channel in CONNECTING, phase CLOSE (R84). -/
abbrev State.stimulusSafe (s : State) : Prop :=
  (∀ c, (s.chan c).stim.on = true → s.measuring c) ∧
    (∀ c ∈ s.completeWaits, s.phaseOf c = some .releasing) ∧ s.completeWaits.Nodup ∧
    ∀ c, (s.relays.batches.get c).isSome = true → s.phaseOf c = some (.connecting .close)

/-- The node table is in its canonical form, and a PARKED node's channel is IDLE (R36). -/
def State.parkedSafe (s : State) : Prop :=
  s.relays.nodes.wf = true ∧ ∀ n c l, s.relays.nodes.state n = .parked c l → (s.chan c).running = none

/-- Outside an ACTIVE run the window is empty and every channel is IDLE (R60, R157). -/
abbrev State.restQuiet (s : State) : Prop :=
  s.run.state ≠ .active → s.disp.window = [] ∧ ∀ c, (s.chan c).running = none

/-- The fetch reads the bank, or a halt stopped it there. -/
def Fetch.reads (f : Fetch) (which : BankId) : Bool :=
  match f with
  | .reading b _ _ => b = which
  | .stopped (.at b _ _) => b = which
  | .stopped (.passed _) => false
  | .idle => false
  | .starved _ => false
  | .atEnd _ => false

/-- An ACTIVE bank is the one the fetch reads, so at most one bank is ACTIVE; in an IDLE run the fetch is IDLE (R15,
R25, R31). -/
abbrev State.banksConsistent (s : State) : Prop :=
  (∀ b, (s.plan.get b).state = .active → s.disp.fetch.reads b = true) ∧ (s.run.state = .idle → s.disp.fetch = .idle)

/-- The model's own transient fields are clear between events (log entry 4). -/
abbrev State.transientsClear (s : State) : Prop := s.disp.examDue = false ∧ s.run.haltAsked = false

/-- In an ACTIVE run no interlock latch is set: a set latch refuses START_RUN and halts a running run (R149, R159). -/
abbrev State.latchesQuiet (s : State) : Prop :=
  s.run.state = .active → s.run.vac.latch = false ∧ s.run.lid.latch = false

/-- What holds between events of Run Control, the Plan Store and the dispatcher. -/
abbrev State.runSound (s : State) : Prop :=
  s.restQuiet ∧ s.banksConsistent ∧ s.transientsClear ∧ s.latchesQuiet

/-- The transmitter is sending, or there is nothing it may send (R170). -/
abbrev Link.settled (l : Link) : Prop :=
  l.sending ≠ none ∨ (l.waiting = none ∧ (l.due = [] ∨ l.fault = true))

/-! ## Replies on the link -/

/-- Nothing is waiting to be served or sent, and the link is not faulted: the next request is served at once and its
reply goes out at once (R168, R170). -/
abbrev State.linkOpen (s : State) : Prop :=
  s.link.slot = none ∧ s.link.waiting = none ∧ s.link.sending = none ∧ s.link.due = [] ∧ s.link.fault = false

/-- A reply's frame (R168, R177): the status, the pending set, the body. -/
def replyFrame (kind tag : Byte) (code : Status) (pending : BitVec 8) (body : List Byte) : Frame :=
  { kind := kind, tag := tag, payload := statusCode code :: pending :: body }

/-- The state with a reply going out, its pending set as the state has it. -/
def State.replyingMask (s : State) (kind tag : Byte) (code : Status) (body : List Byte) (mask : Option (BitVec 8)) :
    State :=
  s.withLink { s.link with
    sending := some
      { isReply := true, newMask := mask, frame := replyFrame kind tag code s.link.pendingSet body,
        wire := (replyFrame kind tag code s.link.pendingSet body).bytes } }

/-- The same for a reply that carries no enable mask. -/
def State.replying (s : State) (kind tag : Byte) (code : Status) (body : List Byte) : State :=
  s.replyingMask kind tag code body none

/-- The reply is going out, or waits behind a notice (R168, R170); `mask` is the enable mask it carries, if any. -/
abbrev State.hasReply (s : State) (kind tag : Byte) (code : Status) (body : List Byte) (mask : Option (BitVec 8)) :
    Prop :=
  s.link.waiting = some { frame := replyFrame kind tag code s.link.pendingSet body, newMask := mask } ∨
    s.link.sending = some
      { isReply := true, newMask := mask, frame := replyFrame kind tag code s.link.pendingSet body,
        wire := (replyFrame kind tag code s.link.pendingSet body).bytes }

/-- The next request is served at once: the slot is empty, and no reply waits or is going out (R168). -/
abbrev State.linkReady (s : State) : Prop :=
  s.link.slot = none ∧ s.link.waiting = none ∧ ∀ o, s.link.sending = some o → o.isReply = false

/-- The condition of a level kind; an event kind has none (R171). -/
def State.conditionOf (s : State) (k : Notice) : Prop :=
  match k with
  | .resultsReady => s.link.watermark ≤ s.results.records.length
  | .starved => s.disp.starved = true
  | .counterOverflow => ∃ i, (s.counters.units.get i).overflow = true
  | .interlock => s.run.vac.latch = true ∨ s.run.lid.latch = true
  | .siteRetired => False
  | .bankDone => False
  | .runDone => False
  | .runHalted => False

/-- The link after a frame error: counted to its cap, the fault flag set (R167). -/
def Link.faulted (l : Link) : Link := { l with errorCount := min 65535 (l.errorCount + 1), fault := true }

/-- The counters are frozen: no counter event changes anything (R141). -/
abbrev State.countersStill (s : State) : Prop := s.counters.frozen = true

/-- No counter acts on a wrap: the counters are frozen, or every action is NONE. Counting then changes the counters and
the pending notices alone (R138, R139). -/
abbrev State.countersPassive (s : State) : Prop :=
  s.counters.frozen = true ∨ ∀ i : Fin 8, (s.counters.units.get i).action = .none

/-- No wrap of a counter retires a site: the counters are frozen, or no action is RETIRE (R139). -/
abbrev State.noRetireWrap (s : State) : Prop :=
  s.counters.frozen = true ∨ ∀ i : Fin 8, (s.counters.units.get i).action ≠ .retire

/-- Every notice kind pending in `s` is pending in `t` (R171: only the station takes a kind out). -/
abbrev State.pendingKept (s t : State) : Prop :=
  ∀ k : Notice, k.isIn s.link.pendingSet = true → k.isIn t.link.pendingSet = true

/-- The counters after some occurrences, offered one after another (R133, R138). -/
def State.counted (s : State) (os : List Occurrence) : CounterBlock := (os.foldl State.offer s).counters

/-- An occurrence that a channel's instance emits: its value, the channel, the instance's site and group (R100, R133). -/
def emitted (event : CounterEvent) (value : Nat) (c : Chan) (i : Instance) : Occurrence :=
  { event := event, value := value, ch := c, site := some i.site, group := some i.step.group, outcome := none }

/-- No instance can be dispatched at an examination: the run is not ACTIVE, dispatch is paused, or nothing waits. -/
abbrev State.dispatchQuiet (s : State) : Prop :=
  s.run.state ≠ .active ∨ s.disp.paused = true ∨ s.disp.window = []

/-- The RESULT event of a record (R93, R133). -/
def resultEvent (r : ResultRecord) : Occurrence :=
  { event := .result, value := 1, ch := r.channel, site := some r.site, group := some r.group,
    outcome := some r.outcome }

/-! ## What an event does to the relays, the channels and the run -/

/-- The later of two Time Base values less than half a wrap apart (R47, R52; log entry 27). -/
def laterTime (t u : Time) : Time := if (u - t).toNat < 2147483648 then u else t

/-- The expiry of an entry appended to a release queue: the release time from now, or the expiry of the entry before it
where that is later (R47). -/
def expiryAfter (now : Time) (r : RelayMap) : Time :=
  match r.queue.getLast? with
  | some e => laterTime (now + BitVec.ofNat 32 r.tRel) e.expiry
  | none => now + BitVec.ofNat 32 r.tRel

/-- The open commands for some nodes, in their order, each on its node's channel and line; a node that is FREE or OPENING
gets none (R47, R52). -/
def opensOf (t : NodeTable) (ns : List Node) : List RelayCommand :=
  ns.filterMap fun n =>
    match t.state n with
    | .closing c l => some (.open n c l)
    | .held c l => some (.open n c l)
    | .parked c l => some (.open n c l)
    | .free _ => none
    | .opening _ => none

/-- Entries of one cause appended one after another, one for each owner (R47): each covers its owner's nodes in ascending
number and expires as the rule gives, and their open commands go out in that order. -/
def appended (now : Time) (r t : RelayMap) (cause : ReleaseCause) (owners : List Chan) (covered : Chan → Node → Prop)
    (xs : List ReleaseEntry) : Prop :=
  t.queue = r.queue ++ xs ∧ xs.map ReleaseEntry.owner = owners.map some ∧
    (∀ x ∈ xs, x.cause = cause ∧ x.expiry = expiryAfter now r ∧ x.nodes.Pairwise (· < ·) ∧
      ∀ c, x.owner = some c → ∀ n, n ∈ x.nodes ↔ covered c n) ∧
    t.drive = r.drive ++ xs.flatMap fun x => opensOf r.nodes x.nodes

/-- The END release of a completed run (R51): of the channels with PARKED nodes and no item waiting, in ascending number,
the first get an END entry each while there are free slots, and the others an END item on the wait list. -/
def endReleased (now : Time) (r t : RelayMap) : Prop :=
  let parked (c : Chan) (n : Node) : Prop := ∃ l, r.nodes.state n = .parked c l
  ∃ (granted waiting : List Chan) (xs : List ReleaseEntry),
    (granted ++ waiting).Pairwise (· < ·) ∧
    (∀ c, c ∈ granted ++ waiting ↔ (∃ n, parked c n) ∧ ∀ w ∈ r.waitList, w.ch ≠ c) ∧
    granted.length = min (granted ++ waiting).length (8 - r.queue.length) ∧
    appended now r t .endRun granted parked xs ∧
    t.waitList = r.waitList ++ waiting.map (fun c => { ch := c, cause := .endRun }) ∧
    t.batches = r.batches ∧ t.tOp = r.tOp ∧ t.tRel = r.tRel ∧
    ∀ n, (t.nodes.get n).closeCount = (r.nodes.get n).closeCount ∧
      t.nodes.state n =
        match r.nodes.state n with
        | .parked c l => if c ∈ granted then .opening c else .parked c l
        | x => x

/-- The emergency open (R52): claims, batches, queue and wait list cleared, every closed or closing node commanded open in
ascending number, and one EMERGENCY entry over every node that is not FREE, which expires at the latest of the release
time from now and the expiries of the entries it replaces. -/
def emergencyOpened (now : Time) (r t : RelayMap) : Prop :=
  (∀ n, (t.nodes.get n).closeCount = (r.nodes.get n).closeCount ∧
    t.nodes.state n =
      match r.nodes.state n with
      | .free _ => .free none
      | .closing c _ => .opening c
      | .held c _ => .opening c
      | .parked c _ => .opening c
      | .opening c => .opening c) ∧
  t.waitList = [] ∧ (∀ c, t.batches.get c = none) ∧
  ∃ e, t.queue = [e] ∧ e.owner = none ∧ e.cause = .emergency ∧ e.nodes.Pairwise (· < ·) ∧
    (∀ n, n ∈ e.nodes ↔ ∃ c, t.nodes.state n = .opening c) ∧
    e.expiry = (r.queue.map ReleaseEntry.expiry).foldl laterTime (now + BitVec.ofNat 32 r.tRel) ∧
    t.drive = r.drive ++ opensOf r.nodes e.nodes

/-- A halt taken in an ACTIVE run (R153): the window discarded, the fetch STOPPED with the position it held (R31), every
channel aborted with its record posted in ascending channel number (R97), each post a RESULT event, the site of a CONTACT
record with an outcome other than PASS retired (R94), and the emergency open made. Banks, enable set, outputs, latches,
Settle Monitors and Reading Units stand. -/
def haltTaken (s : State) (why : HaltReason) (t : State) : Prop :=
  let posts : List ResultRecord :=
    allChans.filterMap fun c => (s.chan c).running.bind fun k => haltRecord c (s.chan c) k s.time
  let retires (j : Fin 8) : Prop := s.siteState j = .active ∧ ∃ c k r, (s.chan c).running = some k ∧
    haltRecord c (s.chan c) k s.time = some r ∧ k.inst.step.kind = .contact ∧ k.inst.site = .board j ∧ r.outcome ≠ .pass
  t.run = { s.run with state := .halted why, haltAsked := false } ∧ Notice.runHalted.isIn t.link.pendingSet = true ∧
    s.pendingKept t ∧ t.plan = s.plan ∧
    t.disp = { s.disp with
      window := []
      fetch :=
        match s.disp.fetch with
        | .reading b i n => .stopped (.at b i n)
        | .starved b => .stopped (.passed b)
        | .atEnd b => .stopped (.passed b)
        | .idle => .idle
        | .stopped q => .stopped q
      examDue := false } ∧
    (∀ c, (t.chan c).running = none ∧ ((s.chan c).running ≠ none → (t.chan c).stim.on = false) ∧
      (t.chan c).stim.range = (s.chan c).stim.range ∧ (t.chan c).stim.level = (s.chan c).stim.level ∧
      (t.chan c).monitor = (s.chan c).monitor ∧ (t.chan c).reading = (s.chan c).reading) ∧
    t.results = { records := s.results.records ++ posts, waiting := [] } ∧
    t.counters = s.counted (posts.map resultEvent) ∧
    (s.noRetireWrap → t.sites.count = s.sites.count ∧
      ∀ j, (retires j → t.sites.entries.get j = { s.sites.entries.get j with state := .retired .contact } ∧
          Notice.siteRetired.isIn t.link.pendingSet = true) ∧
        (¬ retires j → t.sites.entries.get j = s.sites.entries.get j)) ∧
    emergencyOpened s.time s.relays t.relays ∧ t.relays.tOp = s.relays.tOp ∧ t.relays.tRel = s.relays.tRel ∧
    t.time = s.time ∧ t.tickTaken = s.tickTaken ∧ t.pending = s.pending

/-- The relays after the post of channel c's record (R44, R45, R95, R96): a HOLD step's HELD nodes are PARKED on their
lines; any other step's are OPENING in one COMPLETE entry where a slot is free and no append waits, and else stay HELD with
a COMPLETE item on the wait list. With no HELD node nothing moves. -/
def parkedOrReleased (now : Time) (c : Chan) (hold : Bool) (r t : RelayMap) : Prop :=
  let held (n : Node) : Prop := ∃ l, r.nodes.state n = .held c l
  let room : Prop := r.queue.length < 8 ∧ r.waitList = []
  let moved (kind : Line → NodeState) : Prop := ∀ n, (t.nodes.get n).closeCount = (r.nodes.get n).closeCount ∧
    t.nodes.state n =
      match r.nodes.state n with
      | .held d l => if d = c then kind l else .held d l
      | y => y
  (hold = true → t = { r with nodes := t.nodes } ∧ moved (.parked c)) ∧
    (hold = false → (∀ n, ¬ held n) → t = r) ∧
    (hold = false → (∃ n, held n) → room → (∃ xs, appended now r t .complete [c] (fun _ => held) xs) ∧
      t = { r with nodes := t.nodes, queue := t.queue, drive := t.drive } ∧ moved (fun _ => .opening c)) ∧
    (hold = false → (∃ n, held n) → ¬ room →
      t = { r with waitList := r.waitList ++ [{ ch := c, cause := .complete }] })

/-- The examination of the window (R60, R61), where no counter acts on a wrap: a walk, and a further one after each walk
that an instance left the window in (DEDUCED, log entry 22). -/
inductive Examined : State → State → Prop where
  | last (s : State) : s.walk.disp.window.length = s.disp.window.length → Examined s s.walk
  | again (s t : State) : s.walk.disp.window.length < s.disp.window.length → Examined s.walk t → Examined s t

/-- The completion test (R151): an ACTIVE run with the fetch at END, the window empty and every channel IDLE is DONE with
its END release, and RUN_DONE is pending; anything else stands. -/
def completionTested (s t : State) : Prop :=
  let done : Prop := s.run.state = .active ∧ (∃ b, s.disp.fetch = .atEnd b) ∧ s.disp.window = [] ∧
    ∀ c, (s.chan c).running = none
  (¬ done → t = s) ∧
    (done → endReleased s.time s.relays t.relays ∧ Notice.runDone.isIn t.link.pendingSet = true ∧ s.pendingKept t ∧
      t = ((s.withRun { s.run with state := .done }).withRelays t.relays).withLink t.link)

/-- The close of an event that calls for an examination and asks for no halt (R60, R151): in an ACTIVE run the
examination and then the completion test; in any other run nothing. -/
def closedFrom (s t : State) : Prop :=
  (s.run.state = .active → ∃ u, Examined s u ∧ completionTested u t) ∧ (s.run.state ≠ .active → t = s)

/-- The live counts of the banks lowered (R13), with the drains this completes (R17). -/
def liveLowered (s : State) (lost : BankId → Nat) (t : State) : Prop :=
  ∀ b, let drained : Prop :=
      lost b ≠ 0 ∧ s.run.state = .active ∧ (s.plan.get b).state = .draining ∧ (s.plan.get b).live ≤ lost b
    (drained → t.plan.get b = { state := .empty, records := [], final := false, live := 0 } ∧
      Notice.bankDone.isIn t.link.pendingSet = true) ∧
    (¬ drained → t.plan.get b = { s.plan.get b with live := (s.plan.get b).live - lost b })

/-- The retirement of an ACTIVE site (R32, R34): its reason recorded, its waiting instances out of the window, each
counted as skipped and taken off its bank's live count, and SITE_RETIRED pending. -/
def siteWithdrawn (s : State) (j : Fin 8) (why : RetireReason) (t : State) : Prop :=
  let gone := s.disp.window.filter fun e => decide (e.inst.site = .board j)
  let e := s.sites.entries.get j
  t.sites = { s.sites with
    entries := s.sites.entries.set j
      { e with
        state := .retired why
        skipped := if gone = [] then e.skipped else min 65535 (e.skipped + gone.length) } } ∧
    liveLowered s (fun b => (gone.filter fun x => decide (x.inst.bank = b)).length) t ∧
    Notice.siteRetired.isIn t.link.pendingSet = true ∧ s.pendingKept t ∧
    t = { s with
      plan := t.plan, sites := t.sites, link := t.link
      disp := { s.disp with window := s.disp.window.filter fun e => decide (e.inst.site ≠ .board j) } }

/-- LIMIT retirements of some ACTIVE sites, one after another (R32, R139). -/
def sitesRetired : List (Fin 8) → State → State → Prop
  | [], s, t => t = s
  | j :: js, s, t => ∃ u, siteWithdrawn s j .limit u ∧ sitesRetired js u t

/-- What counting comes to, from the state before it (R138, R139): the counters as counted with the frozen flag, a halt
asked for or not, COUNTER_OVERFLOW raised where a counter wraps, and every ACTIVE site in the mask of a wrapping RETIRE
counter retired with reason LIMIT. -/
def wrapsTaken (s : State) (counters : CounterBlock) (asked : Bool) (wraps : Fin 8 → Prop) (t : State) : Prop :=
  let counted := (s.withCounters counters).withRun { s.run with haltAsked := asked }
  let named (j : Fin 8) : Prop := ∃ i, wraps i ∧ (s.counters.units.get i).action = .retire ∧
    (s.counters.units.get i).siteMask.getLsbD j.val = true
  ∃ (u : State) (js : List (Fin 8)),
    ((∃ i, wraps i) → u = counted.raise .counterOverflow) ∧ ((∀ i, ¬ wraps i) → u = counted) ∧
    js.Nodup ∧ (∀ j, j ∈ js ↔ s.siteState j = .active ∧ named j) ∧ sitesRetired js u t

/-- Steps 1 to 4 of a normal post, where no wrap retires a site (R93): the record appended, its bank's live count lowered,
one RESULT event, and the site of a CONTACT record with an outcome other than PASS retired (R94). -/
def recordPosted (s : State) (k : Running) (rec : ResultRecord) (t : State) : Prop :=
  let retires (j : Fin 8) : Prop :=
    k.inst.site = .board j ∧ k.inst.step.kind = .contact ∧ rec.outcome ≠ .pass ∧ s.siteState j = .active
  ∃ u : State, u.results = { s.results with records := s.results.records ++ [rec] } ∧
    (s.link.watermark ≤ s.results.records.length + 1 → Notice.resultsReady.isIn u.link.pendingSet = true) ∧
    liveLowered s (fun b => if k.inst.bank = b then 1 else 0) u ∧ s.pendingKept u ∧
    u = { s with
      results := u.results, plan := u.plan, link := u.link
      counters := (s.offer (resultEvent rec)).counters, run := (s.offer (resultEvent rec)).run } ∧
    (∀ j, retires j → siteWithdrawn u j .contact t) ∧ ((∀ j, ¬ retires j) → t = u)

/-- A normal post of channel c's record, from the state before it (R93), where no wrap retires a site. The record is
posted; retirements that take waiting instances out of an ACTIVE run's window start one walk (not where a halt is asked
for); the nodes are parked or released, and the channel is IDLE, or RELEASING where its append waits. At the close a halt
asked for is taken; otherwise the window is examined where a channel or an instance has left, and the run may complete
(R151). That one walk is made before the channel parks is the model's choice (log entries 9 and 22). -/
def postMade (s : State) (c : Chan) (k : Running) (rec : ResultRecord) (t : State) : Prop :=
  ∃ m n p : State, recordPosted s k rec m ∧
    let removed : Prop := m.disp.window.length < s.disp.window.length
    let walks : Prop := removed ∧ s.run.state = .active ∧ m.run.haltAsked = false
    let leaves : Prop := k.inst.step.hold = true ∨ (∀ x l, n.relays.nodes.state x ≠ .held c l) ∨
      (n.relays.queue.length < 8 ∧ n.relays.waitList = [])
    (walks → n = m.walk) ∧ (¬ walks → n = m) ∧
    parkedOrReleased n.time c k.inst.step.hold n.relays p.relays ∧
    (leaves → p = (n.withRelays p.relays).withChan c { n.chan c with running := none }) ∧
    (¬ leaves →
      p = (n.withRelays p.relays).withChan c { n.chan c with running := some { k with phase := .releasing } }) ∧
    (p.run.haltAsked = true → s.run.state = .active → haltTaken p .limit t) ∧
    (p.run.haltAsked = true → s.run.state ≠ .active → t = p.withRun { p.run with haltAsked := false }) ∧
    (p.run.haltAsked = false →
      let called : Prop := leaves ∨ n.disp.window.length < m.disp.window.length
      (called → closedFrom p t) ∧ (¬ called → t = p))

/-- The posts of some waiting channels granted one after another (R92, R127): while fewer than 252 records are held a
channel still on the list of waiting posts leaves it with a normal post; any other is passed over. -/
def postsMade : List (Chan × ResultRecord) → State → State → Prop
  | [], s, t => t = s
  | p :: ps, s, t =>
    let granted : Prop := p.1 ∈ s.results.waiting ∧ s.results.records.length < 252
    (granted → ∃ k u, (s.chan p.1).running = some k ∧
      postMade (s.withResults { s.results with waiting := s.results.waiting.filter fun d => decide (d ≠ p.1) }) p.1 k p.2 u ∧
      postsMade ps u t) ∧
    (¬ granted → postsMade ps s t)

/-- A freed release-queue slot handed on (R49): END items at the head of the wait list that cover no node leave without an
entry (log entry 32). A COMPLETE item's HELD nodes then go into a COMPLETE entry and its channel is IDLE; an END item's
entry covers the nodes parked on its channel now. -/
def slotGranted (s t : State) : Prop :=
  let passed (w : WaitItem) : Prop := w.cause = .endRun ∧ ∀ n l, s.relays.nodes.state n ≠ .parked w.ch l
  let entry (w : WaitItem) (ws : List WaitItem) (cause : ReleaseCause) (covered : Node → Prop) : Prop :=
    (∃ xs, appended s.time s.relays t.relays cause [w.ch] (fun _ => covered) xs) ∧
    t.relays = { s.relays with
      nodes := t.relays.nodes, queue := t.relays.queue, waitList := ws, drive := t.relays.drive } ∧
    ∀ n, (t.relays.nodes.get n).closeCount = (s.relays.nodes.get n).closeCount ∧
      (covered n → t.relays.nodes.state n = .opening w.ch) ∧
      (¬ covered n → t.relays.nodes.state n = s.relays.nodes.state n)
  ((∀ w ∈ s.relays.waitList, passed w) → t = s.withRelays { s.relays with waitList := [] }) ∧
    ∀ front w ws, s.relays.waitList = front ++ w :: ws → (∀ v ∈ front, passed v) →
      (w.cause = .complete → entry w ws .complete (fun n => ∃ l, s.relays.nodes.state n = .held w.ch l) ∧
        t = (s.withRelays t.relays).withChan w.ch { s.chan w.ch with running := none }) ∧
      (w.cause = .endRun → (∃ n l, s.relays.nodes.state n = .parked w.ch l) →
        entry w ws .endRun (fun n => ∃ l, s.relays.nodes.state n = .parked w.ch l) ∧ t = s.withRelays t.relays)

/-- A window entry passes a counter's site and group filters (R134, R135). -/
def Counter.shows (k : Counter) (e : WindowEntry) : Bool :=
  (match e.inst.site with
    | .board i => k.siteMask.getLsbD i.val
    | .panel => k.siteMask.getLsbD 8) && (k.group = none || k.group = some e.inst.step.group)

/-- The command of a request (R178). -/
def Request.command (r : Request) (tag : Byte) (p : List Byte) : Instr :=
  match r with
  | .readStatus => .readStatus tag p
  | .resync => .resync tag p
  | .resetPart => .resetPart tag p
  | .setTiming => .setTiming tag p
  | .setSites => .setSites tag p
  | .setChannels => .setChannels tag p
  | .setNotices => .setNotices tag p
  | .clearNotice => .clearNotice tag p
  | .setOutputs => .setOutputs tag p
  | .clearInterlock => .clearInterlock tag p
  | .loadSteps => .loadSteps tag p
  | .armBank => .armBank tag p
  | .clearBank => .clearBank tag p
  | .startRun => .startRun tag p
  | .pauseRun => .pauseRun tag p
  | .resumeRun => .resumeRun tag p
  | .abortRun => .abortRun tag p
  | .endRun => .endRun tag p
  | .retireSite => .retireSite tag p
  | .readResults => .readResults tag p
  | .readNodes => .readNodes tag p
  | .clearCloseCounts => .clearCloseCounts tag p
  | .setCounter => .setCounter tag p
  | .readCounters => .readCounters tag p
  | .clearOverflow => .clearOverflow tag p
  | .freezeCounters => .freezeCounters tag p

/-- The record of a judgement that ends the last attempt: UNSETTLED at DEADLINE_EXPIRY and at a drift that exhausts the
resettle limit, the Reading Unit's judgement at ACQUISITION_COMPLETE, DONE at DWELL_COMPLETE. -/
def judgedRecord (c : Chan) (s : State) (k : Running) (j : Judgement) (attempts resettles settle : Nat) :
    ResultRecord :=
  { label := k.inst.step.label, stepIndex := k.inst.stepIndex, bank := k.inst.bank, site := k.inst.site, channel := c,
    group := k.inst.step.group, outcome := j.outcome, attempts := attempts, resettles := resettles,
    reading := j.reading, clamped := j.clamped, settleSamples := settle, finish := s.time }

/-- The judgements that form a record, each with its command, its channel afterwards, the occurrences offered before the
record is formed, and its record: a deadline that expires in SETTLING (R107), an acquisition completed with no retry left
to take (R112), a dwell completed (R89), a drift at the resettle limit (R111). CHANNEL_SAMPLE with the same code is the
same event. -/
def formsRecord (i : Instr) (c : Chan) (s : State) (k : Running) (x : Channel) (before : List Occurrence)
    (rec : ResultRecord) : Prop :=
  let m := (s.chan c).monitor
  let r := k.inst.step
  (∃ v : SampleCode, (i = .deadlineExpiry c v ∨ i = .channelSample c v) ∧ k.phase = .settling ∧ r.kind ≠ .discharge ∧
    (m.settleSample r v.toInt).dwellRemaining ≠ 0 ∧ m.prescale = 0 ∧ m.unit = 0 ∧
    x = { s.chan c with monitor := m.settleSample r v.toInt } ∧ before = [] ∧
    rec = judgedRecord c s k { outcome := .unsettled, reading := none, clamped := false } k.attempt m.resettles
      (m.settleSamples + 1)) ∨
  (∃ (v : SampleCode) (y : Int), (i = .acquisitionComplete c v ∨ i = .channelSample c v) ∧ k.phase = .acquiring ∧
    r.kind ≠ .discharge ∧ m.reference = some y ∧ (v.toInt - y).natAbs ≤ r.band ∧
    (s.chan c).reading.count + 1 = 2 ^ r.acquireExp ∧
    let u := (s.chan c).reading.take v.toInt
    ¬ (((judgeReading r u).outcome = .low ∨ (judgeReading r u).outcome = .high) ∧ k.attempt ≤ r.retries) ∧
    x = { s.chan c with reading := u } ∧ before = [] ∧
    rec = judgedRecord c s k (judgeReading r u) k.attempt m.resettles m.settleSamples) ∨
  (∃ n, (i = .dwellComplete c ∨ ∃ v, i = .channelSample c v) ∧ k.phase = .dwelling n ∧ r.kind = .discharge ∧
    n + 1 = r.dwell ∧ x = s.chan c ∧ before = [] ∧
    rec = judgedRecord c s k { outcome := .done, reading := none, clamped := false } 1 0 r.dwell) ∨
  (∃ (v : SampleCode) (y : Int), i = .channelSample c v ∧ k.phase = .acquiring ∧ r.kind ≠ .discharge ∧
    m.reference = some y ∧ r.band < (v.toInt - y).natAbs ∧ m.resettles = r.resettleLimit ∧
    x = { s.chan c with
      monitor := { m with reference := some v.toInt }, reading := { sum := 0, count := 0, overrange := false } } ∧
    before = [emitted .resettle 1 c k.inst] ∧
    rec = judgedRecord c s k { outcome := .unsettled, reading := none, clamped := false } k.attempt m.resettles
      m.settleSamples)

/-- The bytes of a step record on the link and its fields, each at its offset (R180): its length is set by the three
counts as received, and the references follow in list order. -/
def recordFields (b : List Byte) (w : WireRecord) : Prop :=
  let refs := w.force ++ w.ret ++ w.guard
  b.length = 33 + 2 * (natAt b 19 + natAt b 20 + natAt b 21) ∧ le (bytesAt b 0 2) = w.label ∧ byteAt b 2 = w.kind ∧
    byteAt b 3 = w.scope ∧ (byteAt b 4).getLsbD 0 = w.barrier ∧ (byteAt b 4).getLsbD 1 = w.hold ∧ natAt b 5 = w.group ∧
    natAt b 6 = w.range ∧ natAt b 7 = w.acquireExp ∧ sle (bytesAt b 8 2) = w.level ∧ le (bytesAt b 10 2) = w.band ∧
    le (bytesAt b 12 2) = w.dwell ∧ natAt b 14 = w.units ∧ natAt b 15 = w.prescale ∧ natAt b 16 = w.resettleLimit ∧
    natAt b 17 = w.retries ∧ natAt b 18 = w.scaleExp ∧ natAt b 19 = w.force.length ∧ natAt b 20 = w.ret.length ∧
    natAt b 21 = w.guard.length ∧ sle (bytesAt b 22 3) = w.null ∧ le (bytesAt b 25 2) = w.scale ∧
    sle (bytesAt b 27 3) = w.lo ∧ sle (bytesAt b 30 3) = w.hi ∧
    ∀ j n, refs[j]? = some n → le (bytesAt b (33 + 2 * j) 2) = n

/-- A run of link bytes, one RECEIVE_BYTE command each, stopping at the first that gives no next state. -/
def feedBytes : List Byte → State → Host.Outcome State Fault Refusal
  | [], s => .next s
  | b :: bs, s =>
    match exec (.receiveByte b) s with
    | .next t => feedBytes bs t
    | .fault r => .fault r
    | .refused r => .refused r

/-- A safe state: every invariant of the part holds. -/
def State.sound (s : State) : Prop := s.bounded ∧ s.stimulusSafe ∧ s.parkedSafe ∧ s.runSound ∧ s.link.settled

/-- A safe run of `k` steps from `s`: no step stops, and every state reached is sound. -/
def SafeFor : Nat → State → Prop
  | 0, s => s.sound
  | k + 1, s => s.sound ∧ ∃ t, step s = .next t ∧ SafeFor k t

end Sys2Proof.Machine
end

