-- ==== Sys2Proof/Certificates/Slice0/Obligations.lean ====
section
/-! DEFINITION. The statements for the provers. `s.begin` is the state at the start of an event: `s` with nothing on the
relay drive output. -/

open Sys2Proof Sys2Proof.Machine

/-! ## The machine -/

/-- The command at the front of the queue is run with the queue's rest. With no command waiting the part takes its own
event that is due, or lets one microsecond pass: the model's choice (log entry 15). -/
def Obligations.StepRunsFrontCommand : Prop :=
  (∀ (c : Instr) (s : State), step (s.withPending (c :: s.pending)) = exec c s) ∧
  ∀ s : State, s.pending = [] →
    (∀ c, s.dueEvent = some c → step s = exec c s) ∧
    (s.dueEvent = none → step s = .next { s with time := s.time + 1, tickTaken := false })

/-- What power-on leaves in every block: the values the spec gives (the live levels of the sense lines at reset are the
model's choice, log entry 2, and are not named). POWER_ON puts every block at these values: a line lost at that moment
starts its timer at Time Base 0, a line present has its timer stopped. Waiting commands stay: they are not the
part's. -/
def Obligations.PowerOnValues : Prop :=
  (State.reset.time = 0 ∧
   (∀ w, State.reset.plan.get w = { state := .empty, records := [], final := false, live := 0 }) ∧
   State.reset.sites.count = 1 ∧
   (∀ i, State.reset.sites.entries.get i = { base := 0, state := .off, skipped := 0 }) ∧
   State.reset.disp.fetch = .idle ∧ State.reset.disp.window = [] ∧ State.reset.disp.paused = false ∧
   State.reset.disp.starved = false ∧
   (∀ n, State.reset.relays.nodes.get n = { state := .free none, closeCount := 0 }) ∧
   State.reset.relays.queue = [] ∧ State.reset.relays.tOp = 500 ∧ State.reset.relays.tRel = 300 ∧
   (∀ c, (State.reset.chan c).running = none ∧ (State.reset.chan c).stim = { on := false, range := 0, level := 0 } ∧
     (State.reset.chan c).monitor = .empty ∧ (State.reset.chan c).reading = .empty) ∧
   State.reset.results.records = [] ∧ State.reset.results.waiting = [] ∧
   (∀ i, State.reset.counters.units.get i =
     { event := .result, chMask := 0xF, siteMask := 0x1FF, group := none, outcomeMask := 0x7F, threshold := 0,
       invert := false, edge := false, action := .none, value := 0, overflow := false, edgeHeld := false }) ∧
   State.reset.counters.frozen = false ∧
   State.reset.run.state = .idle ∧ State.reset.run.enabled = 0 ∧ State.reset.run.outputs = 0 ∧
   State.reset.run.vac.latch = false ∧ State.reset.run.lid.latch = false ∧
   State.reset.link.receiver = .hunting ∧ State.reset.link.slot = none ∧ State.reset.link.sending = none ∧
   State.reset.link.waiting = none ∧ State.reset.link.due = [] ∧ State.reset.link.fault = false ∧
   State.reset.link.errorCount = 0 ∧ State.reset.link.pendingSet = 0 ∧ State.reset.link.enableMask = 0 ∧
   State.reset.link.watermark = 64) ∧
  ∀ (vacOk lidDown : Bool) (s : State), exec (.powerOn vacOk lidDown) s =
    .next { State.reset with
      run := { State.reset.run with
        vac := { present := vacOk, timer := if vacOk then none else some 0, latch := false }
        lid := { present := lidDown, timer := if lidDown then none else some 0, latch := false } }
      pending := s.pending }

/-! ## The station link -/

/-- The bytes of a frame are START, LENGTH low byte first, KIND, TAG, the payload and the CRC high byte first. The CRC
is that of R166 over the bytes from LENGTH to the payload: a register that starts at 0xFFFF takes each byte most
significant bit first, shifts left, and is combined with 0x1021 where its top bit differed from the data bit; the nine
bytes 123456789 give 0x29B1. The bytes of a frame, fed one by one to a hunting receiver, deliver exactly that frame.
That the delivery is written as the command UNKNOWN_KIND with the frame's KIND, whatever that KIND is, is the model's
form of a whole frame (log entries 13 and 36). -/
def Obligations.FrameBytesDeliverFrame : Prop :=
  (∀ bs : List Byte, crc bs =
     (bs.flatMap fun b => [7, 6, 5, 4, 3, 2, 1, 0].map fun i => b.getLsbD i).foldl
       (fun (r : BitVec 16) d => if r.getLsbD 15 ≠ d then (r <<< 1) ^^^ 0x1021 else r <<< 1) 0xFFFF) ∧
  crc [0x31, 0x32, 0x33, 0x34, 0x35, 0x36, 0x37, 0x38, 0x39] = 0x29B1 ∧
  (∀ f : Frame,
     let covered : List Byte :=
       [BitVec.ofNat 8 f.payload.length, BitVec.ofNat 8 (f.payload.length / 256), f.kind, f.tag] ++ f.payload
     f.bytes = 0xD5 :: covered ++ [(crc covered).extractLsb' 8 8, (crc covered).extractLsb' 0 8]) ∧
  ∀ (f : Frame) (s : State), f.payload.length ≤ 1024 → s.link.receiver = .hunting → s.link.settled →
    feedBytes f.bytes s = exec (.unknownKind f.kind f.tag f.payload) s

/-- One byte at the frame receiver: HUNTING ignores all but 0xD5; inside a frame the length is checked at the second
LENGTH byte and the CRC at the second CRC byte, and a frame error is counted and ends the frame. The gap timer truncates
a frame at 100 µs after its last byte. The model's choices: GAP_TIMER_EXPIRY sooner or outside a frame changes nothing
(log entry 12), and a complete frame of any KIND is written as exec of UNKNOWN_KIND with that KIND (log entry 36). -/
def Obligations.ReceiverServed : Prop :=
  (∀ (x : Byte) (s : State), s.link.settled →
     (s.link.receiver = .hunting → x ≠ 0xD5 → exec (.receiveByte x) s = .next s.begin) ∧
     (s.link.receiver = .hunting → x = 0xD5 →
       exec (.receiveByte x) s = .next (s.begin.withLink { s.link with receiver := .inFrame [] s.time })) ∧
     ∀ got last, s.link.receiver = .inFrame got last →
       let g := got ++ [x]
       let n := le (g.take 2)
       if g.length = 2 ∧ 1024 < n then
         exec (.receiveByte x) s = .next (s.begin.withLink { s.link.faulted with receiver := .hunting })
       else if 2 ≤ g.length ∧ g.length = n + 6 then
         (if g.drop (n + 4) = [(crc (g.take (n + 4))).extractLsb' 8 8, (crc (g.take (n + 4))).extractLsb' 0 8] then
           exec (.receiveByte x) s =
             exec (.unknownKind (g.getD 2 0) (g.getD 3 0) ((g.drop 4).take n))
               (s.withLink { s.link with receiver := .hunting })
         else exec (.receiveByte x) s = .next (s.begin.withLink { s.link.faulted with receiver := .hunting }))
       else exec (.receiveByte x) s = .next (s.begin.withLink { s.link with receiver := .inFrame g s.time })) ∧
  ∀ s : State, s.link.settled →
    (∀ got last, s.link.receiver = .inFrame got last → 100 ≤ (s.time - last).toNat →
      exec .gapTimerExpiry s = .next (s.begin.withLink { s.link.faulted with receiver := .hunting })) ∧
    (∀ got last, s.link.receiver = .inFrame got last → (s.time - last).toNat < 100 →
      exec .gapTimerExpiry s = .next s.begin) ∧
    (s.link.receiver = .hunting → exec .gapTimerExpiry s = .next s.begin)

/-- A frame that cannot be served now: a payload above 1024 bytes, or a slot already full, is a frame error; with the
slot empty and a reply outstanding the frame waits in the slot. That a request command is a whole frame, and that its
frame error leaves the receiver as it is, is the model's choice (log entry 13). -/
def Obligations.RequestHeldOrOverrun : Prop :=
  ∀ (r : Request) (tag : Byte) (p : List Byte) (s : State), s.link.settled →
    (1024 < p.length ∨ s.link.slot ≠ none → exec (r.command tag p) s = .next (s.begin.withLink s.link.faulted)) ∧
    (p.length ≤ 1024 → s.link.slot = none →
      (s.link.waiting ≠ none ∨ ∃ o, s.link.sending = some o ∧ o.isReply = true) →
      exec (r.command tag p) s =
        .next (s.begin.withLink { s.link with
          slot := some { kind := requestCode r, tag := tag, payload := p } }))

/-- A request taken while no reply is outstanding is served in that event: its reply goes out, or waits behind the
notice being sent, with the TAG unchanged, the request's kind plus 0x80 and the pending set as the event leaves it. The
kinds of the requests and the status codes are those of R178. -/
def Obligations.EveryRequestAnswered : Prop :=
  [Request.readStatus, .resync, .resetPart, .setTiming, .setSites, .setChannels, .setNotices, .clearNotice, .setOutputs,
    .clearInterlock, .loadSteps, .armBank, .clearBank, .startRun, .pauseRun, .resumeRun, .abortRun, .endRun,
    .retireSite, .readResults, .readNodes, .clearCloseCounts, .setCounter, .readCounters, .clearOverflow,
    .freezeCounters].map requestCode = requestKinds ∧
  requestKinds = [0x01, 0x02, 0x03, 0x10, 0x11, 0x12, 0x13, 0x14, 0x15, 0x16, 0x20, 0x21, 0x22, 0x30, 0x31, 0x32, 0x33,
    0x34, 0x35, 0x40, 0x41, 0x42, 0x50, 0x51, 0x52, 0x53] ∧
  [Status.ok, .state, .range, .full, .nodeRange, .nodeDup, .scope, .length, .unknown, .faulted, .interlocked].map
    statusCode = [0, 1, 2, 3, 4, 5, 6, 7, 8, 9, 10] ∧
  ∀ (r : Request) (tag : Byte) (p : List Byte) (s : State), p.length ≤ 1024 → s.linkReady →
    ∃ t code body mask, exec (r.command tag p) s = .next t ∧ t.link.slot = none ∧
      t.hasReply (requestCode r + 0x80) tag code body mask ∧
      (s.link.sending ≠ none → t.link.sending = s.link.sending)

/-- While the link is faulted every request but RESYNC is answered FAULTED and not carried out; an unknown kind is
answered with kind 0xFE. -/
def Obligations.FaultedOrUnknownRefused : Prop :=
  ∀ (tag : Byte) (p : List Byte) (s : State), p.length ≤ 1024 → s.link.slot = none → s.link.waiting = none →
    s.link.sending = none →
    (∀ r : Request, r ≠ .resync → s.link.fault = true →
      exec (r.command tag p) s = .next (s.begin.replying (requestCode r + 0x80) tag .faulted [])) ∧
    ∀ k : Byte, k ∉ requestKinds →
      (s.link.fault = true → exec (.unknownKind k tag p) s = .next (s.begin.replying 0xFE tag .faulted [])) ∧
      (s.link.fault = false → s.link.due = [] →
        exec (.unknownKind k tag p) s = .next (s.begin.replying 0xFE tag .unknown []))

/-- When a frame's last byte has gone out, a SET_NOTICES mask takes effect and the next frame starts: the oldest due
notice if the link is not faulted and no RESYNC reply waits, otherwise a waiting reply, otherwise nothing. The request
in the slot is served when the last byte of the previous reply has been sent, exactly as if its frame had then arrived.
The model's choices: TRANSMIT_COMPLETE with nothing being sent changes nothing (log entry 12), the frame in the slot,
of any KIND, is written as UNKNOWN_KIND with that KIND (log entry 36), and the mask, the next frame and the service
come in this order (log entry 11). -/
def Obligations.TransmitCompleteServed : Prop :=
  (∀ s : State, s.link.slot = none →
     (s.link.sending = none → s.link.settled → exec .transmitComplete s = .next s.begin) ∧
     ∀ o, s.link.sending = some o →
       let l : Link := { s.link with sending := none, enableMask := o.newMask.getD s.link.enableMask }
       let resync : Prop := ∃ r, s.link.waiting = some r ∧ r.frame.kind = 0x82
       (∀ k ks, s.link.due = k :: ks → s.link.fault = false → ¬ resync →
         let f : Frame := { kind := 0xFF, tag := 0, payload := [s.link.pendingSet, BitVec.ofNat 8 k.bitNo] }
         exec .transmitComplete s =
           .next (s.begin.withLink { l with
             due := ks, sending := some { isReply := false, newMask := none, frame := f, wire := f.bytes } })) ∧
       (∀ r, s.link.waiting = some r → (s.link.due = [] ∨ s.link.fault = true ∨ resync) →
         exec .transmitComplete s =
           .next (s.begin.withLink { l with
             waiting := none
             sending := some { isReply := true, newMask := r.newMask, frame := r.frame, wire := r.frame.bytes } })) ∧
       (s.link.waiting = none → (s.link.due = [] ∨ s.link.fault = true) →
         exec .transmitComplete s = .next (s.begin.withLink l))) ∧
  ∀ (s : State) (o : Outgoing) (f : Frame), s.link.sending = some o → s.link.slot = some f →
    f.payload.length ≤ 1024 → s.link.waiting = none → (s.link.due = [] ∨ s.link.fault = true) →
    exec .transmitComplete s = exec (.unknownKind f.kind f.tag f.payload)
      (s.withLink { s.link with
        sending := none, enableMask := o.newMask.getD s.link.enableMask, slot := none })

/-- After every command the transmitter is sending, or has nothing it may send. -/
def Obligations.TransmitterNeverIdle : Prop :=
  ∀ (c : Instr) (s t : State), exec c s = .next t → t.link.settled

/-- READ_STATUS replies with the snapshot and changes nothing. RESYNC clears the link-fault flag and returns and clears
the error count, whether the link is faulted or not. Each is refused with a payload and then changes nothing. -/
def Obligations.ReadStatusAndResync : Prop :=
  (∀ (tag : Byte) (p : List Byte) (s : State), p.length ≤ 1024 → s.linkOpen →
     exec (.readStatus tag p) s = .next
       (if p = [] then s.begin.replying 0x81 tag .ok (snapshot s) else s.begin.replying 0x81 tag .length [])) ∧
  ∀ (tag : Byte) (p : List Byte) (s : State), p.length ≤ 1024 → s.link.slot = none → s.link.waiting = none →
    s.link.sending = none →
    exec (.resync tag p) s = .next
      (if p = [] then
        (s.begin.withLink { s.link with fault := false, errorCount := 0 }).replying 0x82 tag .ok
          (leBytes 2 s.link.errorCount)
      else s.begin.replying 0x82 tag .length [])

/-- The snapshot is 180 + 10w + 8q + 2v bytes long, and each of its parts stands where the parts before it end: run,
fetch, banks, window, channels, relays, results, sites, fixture, time, link error count, revision. A field that is
absent is 0xFF, a reference that is absent is 0, and each code is the table's. -/
def Obligations.SnapshotLayout : Prop :=
  (∀ s : State,
    let b := snapshot s
    let part (i n : Nat) : List Byte := (b.drop i).take n
    let w := s.disp.window.length
    let q := s.relays.queue.length
    let v := s.relays.waitList.length
    let bank (k : Bank) : List Byte :=
      [bankStateCode k.state] ++ leBytes 2 k.records.length ++
        leBytes 2 (k.records.map fun r => r.force.length + r.ret.length + r.guard.length).sum ++
        [if k.final then 1 else 0]
    let settle (m : Monitor) : List Byte :=
      [if m.reference.isSome then 1 else 0] ++ sleBytes 3 (m.reference.getD 0) ++ leBytes 2 m.dwellRemaining ++
        [BitVec.ofNat 8 m.prescale, BitVec.ofNat 8 m.unit, BitVec.ofNat 8 m.resettles]
    b.length = 180 + 10 * w + 8 * q + 2 * v ∧
    part 0 4 =
      [runStateCode s.run.state, haltReasonCode s.run.state,
        BitVec.ofNat 8 ((if s.disp.paused then 1 else 0) + 2 * (if s.disp.starved then 1 else 0)),
        BitVec.ofNat 8 s.run.enabled.toNat] ∧
    part 4 5 =
      (match s.disp.fetch with
        | .idle => [0x00, 0xFF, 0xFF, 0xFF, 0xFF]
        | .reading x i n => [0x01, bankCode x] ++ leBytes 2 i ++ [BitVec.ofNat 8 n]
        | .starved x => [0x02, bankCode x, 0xFF, 0xFF, 0xFF]
        | .atEnd x => [0x03, bankCode x, 0xFF, 0xFF, 0xFF]
        | .stopped (.at x i n) => [0x04, bankCode x] ++ leBytes 2 i ++ [BitVec.ofNat 8 n]
        | .stopped (.passed x) => [0x04, bankCode x, 0xFF, 0xFF, 0xFF]) ∧
    part 9 12 = bank s.plan.a ++ bank s.plan.b ∧
    part 21 1 = [BitVec.ofNat 8 w] ∧
    (∀ j e, s.disp.window[j]? = some e →
      part (22 + 10 * j) 10 =
        [bankCode e.inst.bank, BitVec.ofNat 8 e.inst.stepIndex] ++ leBytes 2 e.inst.step.label ++
          [siteCode e.inst.site, blockedCode e.reason] ++ leBytes 4 e.inst.entered.toNat) ∧
    (∀ c : Chan,
      let x := s.chan c
      let row := part (22 + 10 * w + 23 * c.val) 23
      (x.running = none →
        row = [0x00, 0xFF, 0xFF, 0xFF, 0xFF, 0xFF, 0xFF, 0xFF, if x.stim.on then 2 else 0, BitVec.ofNat 8 x.stim.range] ++
          sleBytes 2 x.stim.level ++ [0xFF, 0xFF] ++ settle x.monitor) ∧
      ∀ k, x.running = some k →
        let view : Byte × Byte × Bool × List Byte × Monitor :=
          match k.phase with
          | .connecting .release => (1, 0, false, [0xFF, 0xFF], x.monitor)
          | .connecting .close => (1, 1, false, [0xFF, 0xFF], x.monitor)
          | .settling => (2, 0xFF, false, [0xFF, 0xFF], x.monitor)
          | .acquiring => (3, 0xFF, false, [0xFF, 0xFF], x.monitor)
          | .dwelling n => (4, 0xFF, false, leBytes 2 n, { Monitor.empty with dwellRemaining := k.inst.step.dwell - n })
          | .posting _ => (5, 0xFF, decide (c ∈ s.results.waiting), [0xFF, 0xFF], x.monitor)
          | .releasing => (6, 0xFF, decide (c ∈ s.relays.waitList.map WaitItem.ch), [0xFF, 0xFF], x.monitor)
        row =
          [view.1, view.2.1, bankCode k.inst.bank, BitVec.ofNat 8 k.inst.stepIndex] ++ leBytes 2 k.inst.step.label ++
            [siteCode k.inst.site, BitVec.ofNat 8 k.attempt,
              BitVec.ofNat 8 (1 + 2 * (if x.stim.on then 1 else 0) + 4 * (if view.2.2.1 then 1 else 0)),
              BitVec.ofNat 8 x.stim.range] ++ sleBytes 2 x.stim.level ++ view.2.2.2.1 ++ settle view.2.2.2.2) ∧
    part (114 + 10 * w) 5 = leBytes 2 s.relays.tOp ++ leBytes 2 s.relays.tRel ++ [BitVec.ofNat 8 q] ∧
    (∀ j e, s.relays.queue[j]? = some e →
      part (119 + 10 * w + 8 * j) 8 =
        [match e.owner with
          | some c => BitVec.ofNat 8 c.val
          | none => 0xFF, causeCode e.cause] ++ leBytes 2 e.nodes.length ++ leBytes 4 e.expiry.toNat) ∧
    part (119 + 10 * w + 8 * q) 1 = [BitVec.ofNat 8 v] ∧
    (∀ j x, s.relays.waitList[j]? = some x →
      part (120 + 10 * w + 8 * q + 2 * j) 2 = [BitVec.ofNat 8 x.ch.val, waitCode x.cause]) ∧
    let z := 120 + 10 * w + 8 * q + 2 * v
    part z 3 = leBytes 2 s.results.records.length ++ [BitVec.ofNat 8 s.sites.count] ∧
    (∀ i : Fin 8, let e := s.sites.entries.get i
      part (z + 3 + 6 * i.val) 6 =
        leBytes 2 e.base ++ [siteStateCode e.state, retireReasonCode e.state] ++ leBytes 2 e.skipped) ∧
    part (z + 51) 9 =
      [BitVec.ofNat 8 ((if s.run.vac.present then 1 else 0) + 2 * (if s.run.lid.present then 1 else 0) +
          4 * (if s.run.vac.latch then 1 else 0) + 8 * (if s.run.lid.latch then 1 else 0)),
        BitVec.ofNat 8 s.run.outputs.toNat] ++ leBytes 4 s.time.toNat ++ leBytes 2 s.link.errorCount ++ [0x01]) ∧
  [RunState.idle, .active, .done, .halted .station, .halted .interlock, .halted .limit].map
    (fun r => (runStateCode r, haltReasonCode r)) = [(0, 0), (1, 0), (2, 0), (3, 1), (3, 2), (3, 3)] ∧
  [BankState.empty, .loading, .armed, .active, .draining].map bankStateCode = [0, 1, 2, 3, 4] ∧
  [Blocked.none, .paused, .barrier, .order, .node, .recall, .channel, .queue].map blockedCode =
    [0, 1, 2, 3, 4, 5, 6, 7] ∧
  [ReleaseCause.complete, .dispatch, .recall, .endRun, .emergency].map causeCode = [0, 1, 2, 3, 4] ∧
  [WaitCause.complete, .endRun].map waitCode = [0, 3] ∧ [BankId.a, .b].map bankCode = [0, 1] ∧
  [SiteState.off, .active, .retired .contact, .retired .limit, .retired .station].map
    (fun x => (siteStateCode x, retireReasonCode x)) = [(0, 0), (1, 0), (2, 1), (2, 2), (2, 3)] ∧
  siteCode .panel = 15 ∧ ∀ i : Fin 8, (siteCode (.board i)).toNat = i.val

/-- SET_NOTICES stores the clamped watermark and tests it at once, under the mask still in force; the new mask goes with
the reply. -/
def Obligations.SetNoticesServed : Prop :=
  ∀ (tag : Byte) (p : List Byte) (s : State), p.length ≤ 1024 → s.linkOpen →
    (p.length ≠ 3 → exec (.setNotices tag p) s = .next (s.begin.replying 0x93 tag .length [])) ∧
    ∀ m w0 w1, p = [m, w0, w1] →
      let w := max 1 (min 256 (w0.toNat + 256 * w1.toNat))
      ∃ t, exec (.setNotices tag p) s = .next t ∧ t = s.begin.withLink t.link ∧
        t.hasReply 0x93 tag .ok (m :: leBytes 2 w) (some m) ∧
        t.link.watermark = w ∧ t.link.enableMask = s.link.enableMask ∧
        (Notice.resultsReady.isIn t.link.pendingSet = true ↔
          Notice.resultsReady.isIn s.link.pendingSet = true ∨ w ≤ s.results.records.length) ∧
        ∀ k : Notice, k ≠ .resultsReady → k.isIn t.link.pendingSet = k.isIn s.link.pendingSet

/-- CLEAR_NOTICE takes the named kinds out of the pending set and the due list; a named level kind whose condition holds
stays pending and owes no notice. -/
def Obligations.ClearNoticeServed : Prop :=
  ∀ (tag : Byte) (p : List Byte) (s : State), p.length ≤ 1024 → s.linkReady → s.link.fault = false →
    (s.link.sending = none → s.link.due = []) →
    (p.length ≠ 1 → ∃ t, exec (.clearNotice tag p) s = .next t ∧ t = s.begin.withLink t.link ∧
      t.hasReply 0x94 tag .length [] none ∧ t.link.pendingSet = s.link.pendingSet ∧ t.link.due = s.link.due) ∧
    ∀ m, p = [m] → ∃ t, exec (.clearNotice tag p) s = .next t ∧ t = s.begin.withLink t.link ∧
      t.hasReply 0x94 tag .ok [] none ∧
      t.link.due = s.link.due.filter (fun k => !(k.isIn m)) ∧
      ∀ k, (k.isIn t.link.pendingSet = true ↔
        (k.isIn m = true ∧ s.conditionOf k) ∨ (k.isIn m = false ∧ k.isIn s.link.pendingSet = true))

/-- Raising a kind that is pending changes nothing; a kind not pending enters the pending set, and the young end of the
due list if it is enabled and not yet on it. -/
def Obligations.NoticeRaised : Prop :=
  ([Notice.resultsReady, .starved, .siteRetired, .bankDone, .runDone, .runHalted, .counterOverflow, .interlock].map
     Notice.bitNo = [0, 1, 2, 3, 4, 5, 6, 7] ∧
   ∀ (k : Notice) (m : BitVec 8), k.isIn m = m.getLsbD k.bitNo) ∧
  ∀ (s : State) (k : Notice),
    (k.isIn s.link.pendingSet = true → s.raise k = s) ∧
    (k.isIn s.link.pendingSet = false →
      (∀ j, j.isIn (s.raise k).link.pendingSet = (j.isIn s.link.pendingSet || decide (j = k))) ∧
      (s.raise k).link.due =
        (if k.isIn s.link.enableMask = true ∧ k ∉ s.link.due then s.link.due ++ [k] else s.link.due) ∧
      s.raise k = s.withLink { s.link with
        pendingSet := (s.raise k).link.pendingSet, due := (s.raise k).link.due })

/-! ## The requests that set the part up -/

/-- SET_TIMING: LENGTH, then STATE unless the run is IDLE and the release queue empty, else both times clamped into
50..5000 and echoed. SET_CHANNELS replaces the enable set in an IDLE run; SET_OUTPUTS sets the four output levels in any
run state. Nothing else changes. -/
def Obligations.SettingsServed : Prop :=
  (∀ (tag : Byte) (p : List Byte) (s : State), p.length ≤ 1024 → s.linkOpen →
     let op := max 50 (min 5000 (le (p.take 2)))
     let rel := max 50 (min 5000 (le (p.drop 2)))
     exec (.setTiming tag p) s = .next
       (if p.length ≠ 4 then s.begin.replying 0x90 tag .length []
       else if s.run.state ≠ .idle ∨ s.relays.queue ≠ [] then s.begin.replying 0x90 tag .state []
       else
         (s.begin.withRelays { s.begin.relays with tOp := op, tRel := rel }).replying 0x90 tag .ok
           (leBytes 2 op ++ leBytes 2 rel))) ∧
  ∀ (tag : Byte) (p : List Byte) (s : State), p.length ≤ 1024 → s.linkOpen →
    (p.length ≠ 1 → exec (.setChannels tag p) s = .next (s.begin.replying 0x92 tag .length [])) ∧
    (∀ m, p = [m] → exec (.setChannels tag p) s = .next
      (if m.toNat = 0 ∨ 15 < m.toNat then s.begin.replying 0x92 tag .range []
      else if s.run.state ≠ .idle then s.begin.replying 0x92 tag .state []
      else (s.begin.withRun { s.run with enabled := m.setWidth 4 }).replying 0x92 tag .ok [m])) ∧
    (p.length ≠ 4 → exec (.setOutputs tag p) s = .next (s.begin.replying 0x95 tag .length [])) ∧
    ∀ w x y z, p = [w, x, y, z] → exec (.setOutputs tag p) s = .next
      (if ∃ v ∈ p, 1 < v.toNat then s.begin.replying 0x95 tag .range []
      else
        (s.begin.withRun { s.run with
          outputs := BitVec.ofNat 4 (w.toNat + 2 * x.toNat + 4 * y.toNat + 8 * z.toNat) }).replying 0x95 tag .ok p)

/-- SET_SITES: LENGTH, then RANGE, then STATE, else the count and the bases are stored, every site is OFF with skipped
count 0, the bases beyond the count are 0, and the reply echoes the request. -/
def Obligations.SetSitesServed : Prop :=
  ∀ (tag : Byte) (p : List Byte) (s : State), p.length ≤ 1024 → s.linkOpen →
    (p = [] → exec (.setSites tag p) s = .next (s.begin.replying 0x91 tag .length [])) ∧
    ∀ c rest, p = c :: rest →
      let base (i : Nat) : Nat := le ((rest.drop (2 * i)).take 2)
      if rest.length ≠ 2 * c.toNat then
        exec (.setSites tag p) s = .next (s.begin.replying 0x91 tag .length [])
      else if c.toNat = 0 ∨ 8 < c.toNat ∨ ∃ i, i < c.toNat ∧ 4095 < base i then
        exec (.setSites tag p) s = .next (s.begin.replying 0x91 tag .range [])
      else if s.run.state ≠ .idle ∨ s.plan.a.state ≠ .empty ∨ s.plan.b.state ≠ .empty then
        exec (.setSites tag p) s = .next (s.begin.replying 0x91 tag .state [])
      else
        ∃ x : SiteTable, exec (.setSites tag p) s = .next ((s.begin.withSites x).replying 0x91 tag .ok p) ∧
          x.count = c.toNat ∧
          ∀ i : Fin 8, x.entries.get i =
            { base := if i.val < c.toNat then base i.val else 0, state := .off, skipped := 0 }

/-- CLEAR_INTERLOCK: a set latch of a present line is cleared, that of a lost line is set again at once and raises
INTERLOCK; a clear latch and its timer are left alone. -/
def Obligations.ClearInterlockServed : Prop :=
  ∀ (tag : Byte) (p : List Byte) (s : State), p.length ≤ 1024 → s.linkOpen → s.latchesQuiet →
    (p ≠ [] → exec (.clearInterlock tag p) s = .next (s.begin.replying 0x96 tag .length [])) ∧
    (p = [] → ∃ t, exec (.clearInterlock tag p) s = .next t ∧
      t = (s.begin.withRun { s.run with vac := t.run.vac, lid := t.run.lid }).withLink t.link ∧
      (∀ l, t.sense l =
        if (s.sense l).latch = true then
          (if (s.sense l).present = true then { s.sense l with latch := false }
          else { s.sense l with timer := none, latch := true })
        else s.sense l) ∧
      (Notice.interlock.isIn t.link.pendingSet = true ↔ Notice.interlock.isIn s.link.pendingSet = true ∨
        ∃ l, (s.sense l).latch = true ∧ (s.sense l).present = false) ∧
      t.hasReply 0x96 tag .ok
        [BitVec.ofNat 8 ((if t.run.vac.present then 1 else 0) + 2 * (if t.run.lid.present then 1 else 0) +
          4 * (if t.run.vac.latch then 1 else 0) + 8 * (if t.run.lid.latch then 1 else 0))] none)

/-- READ_NODES reports consecutive node entries, seven bytes each (state, channel, line, claim, close count; an absent
field 0xFF), and changes nothing; CLEAR_CLOSE_COUNTS sets the close counts of a range to 0 and leaves state, channel,
line and claim as they are. -/
def Obligations.NodeTableRequests : Prop :=
  ∀ (tag : Byte) (p : List Byte) (s : State), p.length ≤ 1024 → s.linkOpen →
    let chan (c : Chan) : Byte := BitVec.ofNat 8 c.val
    let line (l : Line) : Byte :=
      match l with
      | .forceLine => 0
      | .returnLine => 1
      | .guardLine => 2
    let row (e : NodeEntry) : List Byte :=
      (match e.state with
        | .free none => [0, 0xFF, 0xFF, 0xFF]
        | .free (some c) => [0, 0xFF, 0xFF, chan c]
        | .closing c l => [1, chan c, line l, 0xFF]
        | .held c l => [2, chan c, line l, 0xFF]
        | .parked c l => [3, chan c, line l, 0xFF]
        | .opening c => [4, chan c, 0xFF, 0xFF]) ++
      [BitVec.ofNat 8 e.closeCount, BitVec.ofNat 8 (e.closeCount / 256), BitVec.ofNat 8 (e.closeCount / 65536)]
    (p.length ≠ 3 → exec (.readNodes tag p) s = .next (s.begin.replying 0xC1 tag .length [])) ∧
    (∀ x y z, p = [x, y, z] →
      let start := x.toNat + 256 * y.toNat
      let k := min (max 1 (min 128 z.toNat)) (4096 - start)
      exec (.readNodes tag p) s = .next
        (if 4095 < start then s.begin.replying 0xC1 tag .range []
        else s.begin.replying 0xC1 tag .ok ([x, y, BitVec.ofNat 8 k] ++
          (List.range k).flatMap fun i => row (s.relays.nodes.get (start + i))))) ∧
    (p.length ≠ 4 → exec (.clearCloseCounts tag p) s = .next (s.begin.replying 0xC2 tag .length [])) ∧
    ∀ w x y z, p = [w, x, y, z] → s.relays.nodes.wf = true →
      let first := w.toNat + 256 * x.toNat
      let last := y.toNat + 256 * z.toNat
      if 4095 < last ∨ last < first then
        exec (.clearCloseCounts tag p) s = .next (s.begin.replying 0xC2 tag .range [])
      else
        ∃ nt : NodeTable, exec (.clearCloseCounts tag p) s = .next ((s.begin.withNodes nt).replying 0xC2 tag .ok p) ∧
          nt.wf = true ∧
          ∀ n, nt.get n = if first ≤ n ∧ n ≤ last then { s.relays.nodes.get n with closeCount := 0 }
            else s.relays.nodes.get n

/-! ## The plan banks -/

/-- LOAD_STEPS's checks of one record, in order, and the record as stored, its tuning fields clamped; a record counts as
clamped where at least one of those fields is stored with another value. -/
def Obligations.RecordChecks : Prop :=
  ∀ (x : SiteTable) (b : Bank) (w : WireRecord),
    let refs := w.force ++ w.ret ++ w.guard
    checkRecord x b w =
      (if ¬ (w.kind.toNat ≤ 2 ∧ w.scope.toNat ≤ 1 ∧ 1 ≤ w.force.length ∧ w.force.length ≤ 8 ∧ 1 ≤ w.ret.length ∧
          w.ret.length ≤ 8 ∧ w.guard.length ≤ 24 ∧ w.group ≤ 15 ∧ w.range ≤ 7 ∧ w.scaleExp ≤ 7 ∧
          -524288 ≤ w.null ∧ w.null ≤ 524287 ∧ -8388608 ≤ w.lo ∧ w.lo ≤ 8388607 ∧ -8388608 ≤ w.hi ∧
          w.hi ≤ 8388607) then .error .range
      else if (w.scope = 1 ∧ ∃ r ∈ refs, 4095 < r) ∨
          (w.scope = 0 ∧ ∃ e ∈ x.entries.toList.take x.count, ∃ r ∈ refs, 4095 < e.base + r) then .error .nodeRange
      else if ¬ refs.Nodup then .error .nodeDup
      else if (w.kind = 1 ∧ w.scope = 1) ∨ (w.kind = 2 ∧ w.guard ≠ []) then .error .scope
      else if 256 ≤ b.records.length ∨
          4096 < (b.records.map fun r => r.force.length + r.ret.length + r.guard.length).sum + refs.length then
        .error .full
      else
        .ok
          { label := w.label
            kind := if w.kind = 0 then .measure else if w.kind = 1 then .contact else .discharge
            scope := if w.scope = 0 then .site else .common
            barrier := w.barrier, hold := w.hold, group := w.group, range := w.range, level := w.level
            force := w.force, ret := w.ret, guard := w.guard
            band := max 1 w.band, dwell := max 1 (min 4095 w.dwell), units := w.units, prescale := w.prescale
            acquireExp := min 8 w.acquireExp, resettleLimit := min 3 w.resettleLimit, retries := min 3 w.retries
            null := w.null, scale := w.scale, scaleExp := w.scaleExp, lo := w.lo, hi := w.hi }) ∧
    (w.clamped = true ↔ w.band = 0 ∨ w.dwell = 0 ∨ 4095 < w.dwell ∨ 8 < w.acquireExp ∨ 3 < w.resettleLimit ∨
      3 < w.retries)

/-- LOAD_STEPS: a payload is a bank byte, a record count and that many records laid end to end, each as long as its own
three counts say, with nothing after the last; any other payload (too short for the two bytes, ending before the last
byte of a record, or with bytes after the last) is refused with LENGTH. Then RANGE, STATE; else the longest run of
leading records that pass their checks is appended with the next step indices, and the reply gives the accepted count,
the refused index and the clamped count. -/
def Obligations.LoadStepsAppends : Prop :=
  ∀ (tag : Byte) (p : List Byte) (s : State), p.length ≤ 1024 → s.linkOpen →
    let laid (bc : Byte) (ws : List WireRecord) : Prop := ∃ rs : List (List Byte), rs.length ≤ 255 ∧
      p = bc :: BitVec.ofNat 8 rs.length :: rs.flatten ∧ List.Forall₂ recordFields rs ws
    ((¬ ∃ bc ws, laid bc ws) → exec (.loadSteps tag p) s = .next (s.begin.replying 0xA0 tag .length [])) ∧
    ∀ bc ws, laid bc ws →
      (1 < bc.toNat → exec (.loadSteps tag p) s = .next (s.begin.replying 0xA0 tag .range [])) ∧
      ∀ which, bankCode which = bc →
        let old := s.plan.get which
        ((old.state = .armed ∨ old.state = .active ∨ old.state = .draining) →
          exec (.loadSteps tag p) s = .next (s.begin.replying 0xA0 tag .state [])) ∧
        ((old.state = .empty ∨ old.state = .loading) →
          ∃ (added : List StepRecord) (code : Status),
            let n := added.length
            exec (.loadSteps tag p) s =
              .next ((s.begin.withPlan (s.plan.set which
                { old with
                  state := if n = 0 then old.state else .loading, records := old.records ++ added })).replying
                0xA0 tag code
                [BitVec.ofNat 8 n, BitVec.ofNat 8 n,
                  BitVec.ofNat 8 ((ws.take n).filter WireRecord.clamped).length]) ∧
            n ≤ ws.length ∧
            (∀ i r w, added[i]? = some r → ws[i]? = some w →
              checkRecord s.sites { old with records := old.records ++ added.take i } w = .ok r) ∧
            (n = ws.length → code = .ok) ∧
            ∀ w, ws[n]? = some w →
              checkRecord s.sites { old with records := old.records ++ added } w = .error code)

/-- ARM_BANK: LENGTH, RANGE, STATE; else the bank is ARMED with its final flag, and a starved fetch of an ACTIVE run
enters it in the same event and fills the window (with the window full no instance is made yet). A bank with no records
is entered and passed in that event: it is EMPTY again with BANK_DONE raised, and the fetch is at END where it is
final, the run DONE with nothing waiting or running, and STARVED again where it is not. CLEAR_BANK goes by the table of
bank and run states. -/
def Obligations.BankRequests : Prop :=
  (∀ (tag : Byte) (p : List Byte) (s : State), p.length ≤ 1024 → s.linkOpen →
     (p.length ≠ 2 → exec (.armBank tag p) s = .next (s.begin.replying 0xA1 tag .length [])) ∧
     ∀ x f, p = [x, f] →
       (1 < x.toNat ∨ 1 < f.toNat → exec (.armBank tag p) s = .next (s.begin.replying 0xA1 tag .range [])) ∧
       ∀ which, bankCode which = x → f.toNat ≤ 1 →
         let old := s.plan.get which
         ((old.state = .armed ∨ old.state = .active ∨ old.state = .draining) →
           exec (.armBank tag p) s = .next (s.begin.replying 0xA1 tag .state [])) ∧
         ((old.state = .empty ∨ old.state = .loading) →
           ((s.run.state ≠ .active ∨ ∀ w, s.disp.fetch ≠ .starved w) →
             exec (.armBank tag p) s =
               .next ((s.begin.withPlan (s.plan.set which
                 { old with state := .armed, final := decide (f = 1) })).replying 0xA1 tag .ok p)) ∧
           (s.run.state = .active → (∃ w, s.disp.fetch = .starved w) → s.transientsClear → old.records ≠ [] →
             16 ≤ s.disp.window.length →
             exec (.armBank tag p) s =
               .next (((s.begin.withPlan (s.plan.set which
                 { old with state := .active, final := decide (f = 1) })).withDisp
                 { s.disp with starved := false, fetch := .reading which 0 0 }).replying 0xA1 tag .ok p)) ∧
           (s.run.state = .active → (∃ w, s.disp.fetch = .starved w) → s.transientsClear → old.records ≠ [] →
             ∃ t, exec (.armBank tag p) s = .next t ∧ t.hasReply 0xA1 tag .ok p none ∧
               t = (((s.begin.withPlan (s.plan.set which
                 { old with state := .active, final := decide (f = 1) })).withDisp
                 { s.disp with starved := false, fetch := .reading which 0 0 }).fill).withLink t.link) ∧
           (s.run.state = .active → (∃ w, s.disp.fetch = .starved w) → s.transientsClear → old.records = [] →
             old.live = 0 → (s.plan.get (otherBank which)).state ≠ .armed →
             ∃ t, exec (.armBank tag p) s = .next t ∧ t.hasReply 0xA1 tag .ok p none ∧
               t.plan = s.plan.set which { state := .empty, records := [], final := false, live := 0 } ∧
               Notice.bankDone.isIn t.link.pendingSet = true ∧ t.chans = s.chans ∧ t.sites = s.sites ∧
               (f = 1 → t.disp = { s.disp with starved := false, fetch := .atEnd which } ∧
                 (s.disp.window = [] → (∀ c, (s.chan c).running = none) →
                   t.run = { s.run with state := .done } ∧ Notice.runDone.isIn t.link.pendingSet = true) ∧
                 (s.disp.window ≠ [] ∨ (∃ c, (s.chan c).running ≠ none) → t.run = s.run)) ∧
               (f = 0 → t.disp = { s.disp with starved := true, fetch := .starved which } ∧ t.run = s.run ∧
                 Notice.starved.isIn t.link.pendingSet = true)))) ∧
  ∀ (tag : Byte) (p : List Byte) (s : State), p.length ≤ 1024 → s.linkOpen →
    (p.length ≠ 1 → exec (.clearBank tag p) s = .next (s.begin.replying 0xA2 tag .length [])) ∧
    ∀ x, p = [x] →
      (1 < x.toNat → exec (.clearBank tag p) s = .next (s.begin.replying 0xA2 tag .range [])) ∧
      ∀ which, bankCode which = x →
        let old := s.plan.get which
        exec (.clearBank tag p) s = .next
          (if old.state = .active ∨ old.state = .draining ∨ (old.state = .armed ∧ s.run.state = .active) then
            s.begin.replying 0xA2 tag .state []
          else if old.state = .empty then s.begin.replying 0xA2 tag .ok p
          else
            (s.begin.withPlan (s.plan.set which
              { state := .empty, records := [], final := false, live := 0 })).replying 0xA2 tag .ok p)

/-- BANK_DONE: a DRAINING bank with live count 0 in an ACTIVE run becomes EMPTY and raises BANK_DONE. RUN_DONE: an
ACTIVE run with the fetch at END, the window empty and every channel IDLE is DONE, and the END release is made: one END
entry for each channel with parked nodes, in ascending number, while there are free slots, and an END item on the wait
list for each of the others. That either command changes nothing in every other case is the model's choice (log entry
12). The relay drive output holds the commands of one event alone: the model's choice (log entry 5). The later of two
expiries is taken within half a wrap (log entry 27). -/
def Obligations.DrainAndCompletionServed : Prop :=
  (∀ (which : BankId) (s : State), s.link.settled →
     let old := s.plan.get which
     (s.run.state = .active ∧ old.state = .draining ∧ old.live = 0 →
       ∃ t, exec (.bankDone which) s = .next t ∧
         t = (s.begin.withPlan (s.plan.set which
           { state := .empty, records := [], final := false, live := 0 })).withLink t.link ∧
         Notice.bankDone.isIn t.link.pendingSet = true ∧
         ∀ k : Notice, k ≠ .bankDone → k.isIn t.link.pendingSet = k.isIn s.link.pendingSet) ∧
     (¬ (s.run.state = .active ∧ old.state = .draining ∧ old.live = 0) → exec (.bankDone which) s = .next s.begin)) ∧
  ∀ s : State, s.link.settled → s.relays.nodes.wf = true →
    let done := s.run.state = .active ∧ (∃ b, s.disp.fetch = .atEnd b) ∧ s.disp.window = [] ∧
      ∀ c, (s.chan c).running = none
    (¬ done → exec .runDone s = .next s.begin) ∧
    (done → ∃ t, exec .runDone s = .next t ∧ t.run = { s.run with state := .done } ∧
      Notice.runDone.isIn t.link.pendingSet = true ∧ t.plan = s.plan ∧ t.sites = s.sites ∧ t.disp = s.disp ∧
      t.chans = s.chans ∧ t.results = s.results ∧ t.counters = s.counters ∧
      endReleased s.time s.begin.relays t.relays)

/-! ## The fetch -/

/-- One making of the fetch (dispatch paused, or no counter acting on a wrap): a COMMON record gives its PANEL
instance; a SITE record gives the instance of the first ACTIVE site at or after the next site, and each RETIRED site
passed over counts a skip. Each node of the instance keeps the line of the list its reference stands in. The instance
enters the window at its young end with reason none, and the window is examined (its walks: DEDUCED, log entry 22): it
then waits or is in a channel. A SITE record with no ACTIVE site left gives none: its RETIRED sites count their skips
and the same making goes on at the next record. The position after the last configured site, the next record with next
site 0, is read from the spec by inference (log entry 8). -/
def Obligations.FetchMakesInstance : Prop :=
  ∀ (s : State) (which : BankId) (i n : Nat) (r : StepRecord),
    s.run.state = .active → s.disp.window.length < 16 → s.disp.fetch = .reading which i n →
    (s.plan.get which).records[i]? = some r →
    let refs (base : Nat) : List (Node × Line) := r.force.map (fun a => (base + a, .forceLine)) ++
      r.ret.map (fun a => (base + a, .returnLine)) ++ r.guard.map (fun a => (base + a, .guardLine))
    let made (x : Instance) (site : Site) (base : Nat) : Prop :=
      x.bank = which ∧ x.stepIndex = i ∧ x.step = r ∧ x.site = site ∧ x.entered = s.time ∧ x.nodes.Perm (refs base) ∧
        (x.nodes.map Prod.fst).Pairwise (· ≤ ·)
    let appended (x : Instance) (pos : Fetch) : State :=
      (s.begin.withPlan (s.plan.set which { s.plan.get which with live := (s.plan.get which).live + 1 })).withDisp
        { s.disp with fetch := pos, window := s.disp.window ++ [{ inst := x, reason := .none, recallSet := [] }] }
    let absent (x : Site) : Prop := ∀ e ∈ s.disp.window, e.inst.key ≠ (which, i, x)
    let taken (x : Instance) (t : State) : Prop :=
      absent x.site → (∃ e ∈ t.disp.window, e.inst = x) ∨ ∃ c, t.instIn c = some x
    (r.scope = .common → s.transientsClear → (s.disp.paused = true ∨ s.countersPassive) →
      ∃ x t, made x .panel 0 ∧ closedFrom (appended x (.reading which (i + 1) 0)) t ∧ taken x t ∧
        exec .fetchAppend s = .next t.transmit) ∧
    (∀ j : Fin 8, r.scope = .site → n ≤ j.val → j.val < s.sites.count → s.siteState j = .active →
      (∀ k : Fin 8, n ≤ k.val → k.val < j.val → s.siteState k ≠ .active) →
      s.transientsClear → (s.disp.paused = true ∨ s.countersPassive) →
      ∃ (x : Instance) (sites : SiteTable) (t : State), made x (.board j) (s.sites.entries.get j).base ∧
        sites.count = s.sites.count ∧
        (∀ k : Fin 8, sites.entries.get k =
          if n ≤ k.val ∧ k.val < j.val ∧ s.siteState k ≠ .off then
            { s.sites.entries.get k with skipped := min 65535 ((s.sites.entries.get k).skipped + 1) }
          else s.sites.entries.get k) ∧
        closedFrom ((appended x
          (if j.val + 1 < s.sites.count then .reading which i (j.val + 1) else .reading which (i + 1) 0)).withSites sites)
          t ∧
        taken x t ∧ exec .fetchAppend s = .next t.transmit) ∧
    (r.scope = .site → (∀ k : Fin 8, n ≤ k.val → k.val < s.sites.count → s.siteState k ≠ .active) →
      ∃ x : SiteTable, x.count = s.sites.count ∧
        (∀ k : Fin 8, x.entries.get k =
          if n ≤ k.val ∧ k.val < s.sites.count ∧ s.siteState k ≠ .off then
            { s.sites.entries.get k with skipped := min 65535 ((s.sites.entries.get k).skipped + 1) }
          else s.sites.entries.get k) ∧
        exec .fetchAppend s =
          exec .fetchAppend ((s.withSites x).withDisp { s.disp with fetch := .reading which (i + 1) 0 }))

/-- A fetch read that returns the end of the ACTIVE bank: the bank is DRAINING, or EMPTY with BANK_DONE raised where
its live count is 0, and the fetch is at END after a final bank, reads on in the other bank where it is ARMED, and is
STARVED otherwise. An ARMED other bank with no records is passed in the same event, to END where it is final and to
STARVED where it is not. -/
def Obligations.FetchPassesEnd : Prop :=
  ∀ (s : State) (which : BankId) (i n : Nat), s.transientsClear → s.run.state = .active →
    s.disp.window.length < 16 → s.disp.fetch = .reading which i n → (s.plan.get which).records.length ≤ i →
    let old := s.plan.get which
    let other := s.plan.get (otherBank which)
    let passed (k : Bank) : Bank :=
      if k.live = 0 then { state := .empty, records := [], final := false, live := 0 } else { k with state := .draining }
    let drained := s.plan.set which (passed old)
    ∃ t, exec .fetchAppend s = .next t ∧ t.disp.window = s.disp.window ∧ t.sites = s.sites ∧ t.chans = s.chans ∧
      (old.live = 0 → Notice.bankDone.isIn t.link.pendingSet = true) ∧
      (old.final = true → t.plan = drained ∧ t.disp.fetch = .atEnd which ∧ t.disp.starved = s.disp.starved) ∧
      (old.final = false → other.state = .armed → other.records ≠ [] →
        t.plan = drained.set (otherBank which) { other with state := .active } ∧
        t.disp.fetch = .reading (otherBank which) 0 0 ∧ t.disp.starved = s.disp.starved) ∧
      (old.final = false → other.state = .armed → other.records = [] →
        t.plan = drained.set (otherBank which) (passed other) ∧
        (other.live = 0 → Notice.bankDone.isIn t.link.pendingSet = true) ∧
        (other.final = true → t.disp.fetch = .atEnd (otherBank which) ∧ t.disp.starved = s.disp.starved) ∧
        (other.final = false → t.disp.fetch = .starved (otherBank which) ∧ t.disp.starved = true ∧
          Notice.starved.isIn t.link.pendingSet = true)) ∧
      (old.final = false → other.state ≠ .armed →
        t.plan = drained ∧ t.disp.fetch = .starved which ∧ t.disp.starved = true ∧
        Notice.starved.isIn t.link.pendingSet = true)

/-- The filling of the window in START_RUN, ARM_BANK and RETIRE_SITE is FETCH_APPEND's making over and over, until the
run is not ACTIVE, the window holds 16 instances or the fetch is not READING (that other refills are FETCH_APPEND
events of their own is read from the spec by inference, log entry 16). -/
def Obligations.WindowFilled : Prop :=
  ∀ s : State,
    let make (x : State) : State := x.fetchMake.closeEvent
    (s.canMake = true ↔
      s.run.state = .active ∧ s.disp.window.length < 16 ∧ ∃ w i n, s.disp.fetch = .reading w i n) ∧
    (s.canMake = true → exec .fetchAppend s = .next (make s.begin).transmit) ∧
    ∃ n, s.fill = make^[n] s ∧ (∀ k, k < n → (make^[k] s).canMake = true) ∧ s.fill.canMake = false

/-! ## The dispatch window -/

/-- An examination takes an entry through the checks in order: PAUSED, BARRIER, ORDER, NODE or RECALL, CHANNEL, then a
recall or QUEUE, then QUEUE, then the dispatch; the first that holds it back is its blocked reason. A BARRIER instance
waits for the older entries and the instances in channels that its barrier concerns (that those in channels are all
earlier is read from the spec by inference, log entry 7). So an entry is dispatched only where it is safe: dispatch not
paused, no older waiting instance on a node of its own, the channel enabled and IDLE, every node FREE and unclaimed or
parked on that channel, and a release-queue slot free where the channel has nodes to release. A walk of the window
takes each entry its turn, oldest to youngest, each against the state as the walk has left it; an entry no longer there
has no turn. The close of an event that calls for an examination (a channel IDLE, a node FREE, an instance in or out)
makes walks until no instance leaves (DEDUCED, log entry 22), in an ACTIVE run only, and then tests for completion (no
halt asked for; no counter acting on a wrap, or nothing to dispatch). After an examination no waiting instance could be
dispatched or recalled for: each shows what still holds it back. -/
def Obligations.EntryDecidedInOrder : Prop :=
  (∀ (s : State) (older : List WindowEntry) (e : WindowEntry), s.relays.nodes.wf = true →
    let nodes := e.inst.nodes.map Prod.fst
    let concerns (b x : Site) : Prop := b = .panel ∨ x = b
    let barrier : Prop :=
      (e.inst.step.barrier = true ∧ ((∃ o ∈ older, concerns e.inst.site o.inst.site) ∨
        ∃ d x, s.instIn d = some x ∧ concerns e.inst.site x.site)) ∨
      ∃ o ∈ older, o.inst.step.barrier = true ∧ concerns o.inst.site e.inst.site
    let order : Prop := ∃ o ∈ older, ∃ n ∈ nodes, n ∈ o.inst.nodes.map Prod.fst
    let available (n : Node) : Prop := s.relays.nodes.state n = .free none ∨
      ∃ d l, s.relays.nodes.state n = .parked d l ∧ (s.chan d).running = none
    let recalled : Prop := ∀ n ∈ nodes, ¬ available n → (∃ d, s.relays.nodes.state n = .opening d) ∧ n ∈ e.recallSet
    let owner (c d : Chan) : Prop := d ≠ c ∧ ∃ n ∈ nodes, ∃ l, s.relays.nodes.state n = .parked d l
    let release (c : Chan) : Prop := ∃ n l, s.relays.nodes.state n = .parked c l ∧ e.inst.lineOf n ≠ some l
    let got := s.decideEntry older e
    (s.disp.paused = true → got = .hold .paused) ∧
    (s.disp.paused = false → barrier → got = .hold .barrier) ∧
    (s.disp.paused = false → ¬ barrier → order → got = .hold .order) ∧
    (s.disp.paused = false → ¬ barrier → ¬ order →
      ((∃ n ∈ nodes, ¬ available n) → (recalled → got = .hold .recall) ∧ (¬ recalled → got = .hold .node)) ∧
      ((∀ n ∈ nodes, available n) →
        ((∀ d, s.run.enabled.getLsbD d.val = true → (s.chan d).running ≠ none) → got = .hold .channel) ∧
        ∀ c, s.choose e.inst = some c →
          (∀ owners : List Chan, owners ≠ [] → owners.Pairwise (· < ·) → (∀ d, d ∈ owners ↔ owner c d) →
            got = if s.relays.queue.length + owners.length ≤ 8 then .recall owners else .hold .queue) ∧
          ((∀ d, ¬ owner c d) → release c → 8 ≤ s.relays.queue.length → got = .hold .queue) ∧
          ((∀ d, ¬ owner c d) → (release c → s.relays.queue.length < 8) → got = .dispatch c))) ∧
    (s.entryOf e.inst.key = some e → s.decideEntry (s.olderThan e.inst.key) e = got →
      (∀ why, got = .hold why → s.examineEntry e.inst.key = s.withWindow (s.disp.window.map fun x =>
        if x.inst.key = e.inst.key then { x with reason := why } else x)) ∧
      (∀ owners, got = .recall owners → s.examineEntry e.inst.key = s.issueRecall e owners) ∧
      ∀ c, got = .dispatch c → s.examineEntry e.inst.key = s.dispatchTo e c)) ∧
  (∀ (s : State) (older : List WindowEntry) (e : WindowEntry) (c : Chan), s.relays.nodes.wf = true →
    s.decideEntry older e = .dispatch c →
    s.disp.paused = false ∧ s.run.enabled.getLsbD c.val = true ∧ (s.chan c).running = none ∧
    (∀ o ∈ older, ∀ n, ¬ (n ∈ e.inst.nodes.map Prod.fst ∧ n ∈ o.inst.nodes.map Prod.fst)) ∧
    (∀ n ∈ e.inst.nodes.map Prod.fst, s.relays.nodes.state n = .free none ∨
      ∃ l, s.relays.nodes.state n = .parked c l) ∧
    ((∃ n l, s.relays.nodes.state n = .parked c l ∧ e.inst.lineOf n ≠ some l) → s.relays.queue.length < 8) ∧
    (e.inst.step.barrier = true → ∀ d x, s.instIn d = some x →
      (e.inst.site = .panel ∨ x.site = e.inst.site) → False)) ∧
  (∀ s : State, s.walk = (s.disp.window.map fun e => e.inst.key).foldl State.examineEntry
      (s.withDisp { s.disp with examDue := false }) ∧
    (∀ k, s.entryOf k = none → s.examineEntry k = s) ∧
    (s.run.haltAsked = false → (s.countersPassive ∨ s.dispatchQuiet) → s.relays.nodes.wf = true →
      (s.disp.examDue = true → closedFrom (s.withDisp { s.disp with examDue := false }) s.closeEvent) ∧
      (s.disp.examDue = false → completionTested s s.closeEvent))) ∧
  ∀ s t : State, s.relays.nodes.wf = true → s.countersPassive → (s.disp.window.map fun e => e.inst.key).Nodup →
    Examined s t → ∀ e ∈ t.disp.window, t.decideEntry (t.olderThan e.inst.key) e = .hold e.reason

/-- Among the enabled IDLE channels the one holding most of the instance's nodes parked on the right line is chosen, the
lowest number among equals. -/
def Obligations.ChannelChosenByReuse : Prop :=
  ∀ (s : State) (i : Instance),
    let free (d : Chan) : Prop := s.run.enabled.getLsbD d.val = true ∧ (s.chan d).running = none
    let count (d : Chan) : Nat := (i.nodes.filter fun q => s.relays.nodes.state q.1 = .parked d q.2).length
    (s.choose i = none → ∀ d, ¬ free d) ∧
    ∀ c, s.choose i = some c →
      free c ∧ ∀ d, free d → count d < count c ∨ (count d = count c ∧ c ≤ d)

/-- A dispatch to an IDLE channel of an instance whose nodes are all FREE and unclaimed or parked on that channel (no
counter acting on a wrap): the entry leaves the window and the channel's END item the wait list, and the channel's
Settle Monitor is emptied. A DISPATCH event is offered to the counters, after a CLOSE event of the number of nodes
closed where there are any (their order is read from the spec by inference, log entry 17). With parked nodes to release
the channel waits in phase RELEASE: nodes parked on the needed line are HELD, the others commanded open and OPENING in
one DISPATCH entry at the young end of the queue, FREE ones claimed. With none to release and a node to close the FREE
nodes are commanded closed in the order of the instance's node set and CLOSING in a batch that expires T_op later. With
neither the connection is made at once, also while a node of an earlier release entry is OPENING on the channel: the
model's reading of R82 and R86 (log entry 39). The later of two expiries is taken within half a wrap (log entry 27). -/
def Obligations.DispatchTaken : Prop :=
  ∀ (s : State) (e : WindowEntry) (c : Chan), s.relays.nodes.wf = true → s.countersPassive → (s.chan c).running = none →
    (e.inst.nodes.map Prod.fst).Nodup →
    (∀ n ∈ e.inst.nodes.map Prod.fst, s.relays.nodes.state n = .free none ∨
      ∃ l, s.relays.nodes.state n = .parked c l) →
    let i := e.inst
    let t := s.dispatchTo e c
    let release := ∃ n l, s.relays.nodes.state n = .parked c l ∧ i.lineOf n ≠ some l
    let emptied : Monitor :=
      { reference := none, dwellRemaining := 0, prescale := 0, unit := 0, resettles := 0, settleSamples := 0 }
    let closed := i.nodes.filter fun q => decide (s.relays.nodes.state q.1 = .free none)
    let close := ∃ n ∈ i.nodes.map Prod.fst, s.relays.nodes.state n = .free none
    t.disp.window = s.disp.window.filter (fun x => decide (x.inst.key ≠ i.key)) ∧
    t.relays.waitList = s.relays.waitList.filter (fun w => decide (w ≠ { ch := c, cause := .endRun })) ∧
    (∀ d, d ≠ c → t.chan d = s.chan d ∧ t.relays.batches.get d = s.relays.batches.get d) ∧
    t.plan = s.plan ∧ t.sites = s.sites ∧ t.results = s.results ∧ t.run = s.run ∧
    (release ∨ ¬ close → t.counters = s.counted [emitted .dispatch 1 c i]) ∧
    (¬ release → close →
      t.counters = s.counted
        [emitted .close closed.length c i, emitted .dispatch 1 c i]) ∧
    (release →
      (t.chan c).running = some { inst := i, attempt := 1, phase := .connecting .release } ∧
      (t.chan c).stim = (s.chan c).stim ∧ (t.chan c).monitor = emptied ∧ t.relays.batches = s.relays.batches ∧
      (∃ xs, appended s.time s.relays t.relays .dispatch [c]
        (fun _ n => ∃ l, s.relays.nodes.state n = .parked c l ∧ i.lineOf n ≠ some l) xs) ∧
      ∀ n, (t.relays.nodes.get n).closeCount = (s.relays.nodes.get n).closeCount ∧
        t.relays.nodes.state n =
          match s.relays.nodes.state n with
          | .parked d l => if d = c then (if i.lineOf n = some l then .held c l else .opening c) else .parked d l
          | .free none => if n ∈ i.nodes.map Prod.fst then .free (some c) else .free none
          | y => y) ∧
    (¬ release → t.relays.queue = s.relays.queue ∧
      (∀ n, t.relays.nodes.get n =
        match s.relays.nodes.state n, i.lineOf n with
        | .parked d l, _ => { s.relays.nodes.get n with state := if d = c then .held c l else .parked d l }
        | .free none, some l =>
          { state := .closing c l, closeCount := min 16777215 ((s.relays.nodes.get n).closeCount + 1) }
        | _, _ => s.relays.nodes.get n) ∧
      (close →
        (t.chan c).running = some { inst := i, attempt := 1, phase := .connecting .close } ∧
        (t.chan c).stim = (s.chan c).stim ∧ (t.chan c).monitor = emptied ∧
        t.relays.drive = s.relays.drive ++ (closed.map fun q => .close q.1 c q.2) ∧
        ∃ b, t.relays.batches.get c = some b ∧ b.expiry = s.time + BitVec.ofNat 32 s.relays.tOp ∧
          b.nodes = closed.map Prod.fst) ∧
      (¬ close → t.relays.batches = s.relays.batches ∧ t.relays.drive = s.relays.drive ∧
        (i.step.kind = .discharge →
          (t.chan c).running = some { inst := i, attempt := 1, phase := .dwelling 0 } ∧
          (t.chan c).stim = (s.chan c).stim ∧ (t.chan c).monitor = emptied) ∧
        (i.step.kind ≠ .discharge →
          t.chan c =
            { running := some { inst := i, attempt := 1, phase := .settling }
              stim := { on := true, range := i.step.range, level := i.step.level }
              monitor :=
                { reference := none, dwellRemaining := i.step.dwell, prescale := i.step.prescale, unit := i.step.units,
                  resettles := 0, settleSamples := 0 }
              reading := { sum := 0, count := 0, overrange := false } })))

/-- Where an examination decides to recall (no counter acting on a wrap), the owners are the channels other than the
chosen one that hold nodes of the instance parked, and there is a slot for each: one RECALL entry for each owner is
appended, with one RECALL event of its node count that carries the owner alone, those nodes are commanded open and
OPENING and join the instance's recall set, and its entry shows RECALL. That the entries are appended in ascending
channel order is the model's choice (log entry 18), and so is that the later of two expiries is taken within half a wrap
(log entry 27). -/
def Obligations.RecallIssued : Prop :=
  ∀ (s : State) (older : List WindowEntry) (e : WindowEntry) (owners : List Chan), s.relays.nodes.wf = true →
    s.countersPassive → s.decideEntry older e = .recall owners →
    let t := s.issueRecall e owners
    let wanted (n : Node) (d : Chan) : Prop := d ∈ owners ∧ n ∈ e.inst.nodes.map Prod.fst ∧
      ∃ l, s.relays.nodes.state n = .parked d l
    owners ≠ [] ∧ s.relays.queue.length + owners.length ≤ 8 ∧ owners.Pairwise (· < ·) ∧
    (∃ c, s.choose e.inst = some c ∧ ∀ d, d ∈ owners ↔ d ≠ c ∧
      ∃ n ∈ e.inst.nodes.map Prod.fst, ∃ l, s.relays.nodes.state n = .parked d l) ∧
    (∃ xs, appended s.time s.relays t.relays .recall owners (fun d n => wanted n d) xs ∧
      t.counters = s.counted (xs.map fun x =>
        { event := .recall, value := x.nodes.length, ch := x.owner.getD 0, site := none, group := none, outcome := none })) ∧
    t.chans = s.chans ∧ t.plan = s.plan ∧
    (∀ n, (t.relays.nodes.get n).closeCount = (s.relays.nodes.get n).closeCount ∧
      (∀ d, wanted n d → t.relays.nodes.state n = .opening d) ∧
      ((∀ d, ¬ wanted n d) → t.relays.nodes.state n = s.relays.nodes.state n)) ∧
    ∃ recalled : List Node, (∀ n, n ∈ recalled ↔ ∃ d, wanted n d) ∧
      t.disp.window = s.disp.window.map fun x =>
        if x.inst.key = e.inst.key then { x with reason := .recall, recallSet := x.recallSet ++ recalled } else x

/-- PAUSE_RUN gives every entry reason PAUSED; RESUME_RUN clears the flag and examines the window before its reply (no
counter acting on a wrap; its walks: DEDUCED, log entry 22): its entries are dispatched, recalled for or given their
reasons, and none shows PAUSED. Both are refused outside ACTIVE, and a repeat changes nothing. -/
def Obligations.PauseAndResume : Prop :=
  ∀ (tag : Byte) (p : List Byte) (s : State), p.length ≤ 1024 → s.linkOpen →
    exec (.pauseRun tag p) s = .next
      (if p ≠ [] then s.begin.replying 0xB1 tag .length []
      else if s.run.state ≠ .active then s.begin.replying 0xB1 tag .state []
      else if s.disp.paused = true then s.begin.replying 0xB1 tag .ok []
      else
        (s.begin.withDisp { s.disp with
          paused := true, window := s.disp.window.map fun e => { e with reason := .paused } }).replying
          0xB1 tag .ok []) ∧
    (p ≠ [] → exec (.resumeRun tag p) s = .next (s.begin.replying 0xB2 tag .length [])) ∧
    (p = [] → s.run.state ≠ .active → exec (.resumeRun tag p) s = .next (s.begin.replying 0xB2 tag .state [])) ∧
    (p = [] → s.run.state = .active → s.disp.paused = false →
      exec (.resumeRun tag p) s = .next (s.begin.replying 0xB2 tag .ok [])) ∧
    (p = [] → s.run.state = .active → s.disp.paused = true → s.transientsClear → s.countersPassive →
      s.relays.nodes.wf = true →
      ∃ u t, closedFrom (s.begin.withDisp { s.disp with paused := false }) u ∧ exec (.resumeRun tag p) s = .next t ∧
        t = u.withLink t.link ∧ u.pendingKept t ∧ t.hasReply 0xB2 tag .ok [] none) ∧
    (p = [] → s.run.state = .active → s.disp.paused = true → s.transientsClear → s.countersStill →
      ∃ t, exec (.resumeRun tag p) s = .next t ∧ t.hasReply 0xB2 tag .ok [] none ∧ t.disp.paused = false ∧
        t.plan = s.plan ∧ t.sites = s.sites ∧ t.results = s.results ∧ t.counters = s.counters ∧
        t.disp.fetch = s.disp.fetch ∧
        ∀ e ∈ t.disp.window, e.reason ≠ .paused ∧ ∃ d ∈ s.disp.window, d.inst = e.inst)

/-! ## Runs -/

/-- START_RUN's checks in order; a refused START_RUN changes nothing. An accepted START_RUN: the run is ACTIVE, the
masked sites are ACTIVE and every other site OFF with skipped counts 0, the fetch enters bank A, which is ACTIVE, at its
first record, and fills the window; with the counters frozen the Result Queue, the counters, the latches and the outputs
stand. A bank A with no records is passed in the same event and is EMPTY with BANK_DONE raised: a final one leaves the
fetch at END and the run DONE, one that is not leaves the fetch in an ARMED bank B, which it fills the window from, or
STARVED. An ARMED bank B with no records is passed in that event as well: to END and DONE where it is final, to STARVED
where it is not. -/
def Obligations.StartRunServed : Prop :=
  (∀ (tag : Byte) (p : List Byte) (s : State), p.length ≤ 1024 → s.linkOpen →
     (p.length ≠ 1 → exec (.startRun tag p) s = .next (s.begin.replying 0xB0 tag .length [])) ∧
     ∀ m, p = [m] →
       let mask := m.toNat = 0 ∨ ∃ j, j < 8 ∧ m.getLsbD j = true ∧ s.sites.count ≤ j
       (s.run.state ≠ .idle ∨ s.plan.a.state ≠ .armed →
         exec (.startRun tag p) s = .next (s.begin.replying 0xB0 tag .state [])) ∧
       (s.run.state = .idle → s.plan.a.state = .armed → mask →
         exec (.startRun tag p) s = .next (s.begin.replying 0xB0 tag .range [])) ∧
       (s.run.state = .idle → s.plan.a.state = .armed → ¬ mask →
         (s.run.enabled = 0 ∨ 252 < s.results.records.length) →
         exec (.startRun tag p) s = .next (s.begin.replying 0xB0 tag .state [])) ∧
       (s.run.state = .idle → s.plan.a.state = .armed → ¬ mask → s.run.enabled ≠ 0 → s.results.records.length ≤ 252 →
         (s.run.vac.latch = true ∨ s.run.lid.latch = true) →
         exec (.startRun tag p) s = .next (s.begin.replying 0xB0 tag .interlocked []))) ∧
  ∀ (tag m : Byte) (s : State), s.linkOpen → s.transientsClear →
    s.run.state = .idle → s.plan.a.state = .armed → m.toNat ≠ 0 →
    (∀ j, j < 8 → m.getLsbD j = true → j < s.sites.count) → s.run.enabled ≠ 0 →
    s.results.records.length ≤ 252 → s.run.vac.latch = false → s.run.lid.latch = false →
    ∃ (sites : SiteTable) (t : State), exec (.startRun tag [m]) s = .next t ∧ t.hasReply 0xB0 tag .ok [] none ∧
      sites.count = s.sites.count ∧
      (∀ i : Fin 8, sites.entries.get i =
        { base := (s.sites.entries.get i).base, state := if m.getLsbD i.val = true then .active else .off,
          skipped := 0 }) ∧
      let begun := (s.begin.withRun { s.run with state := .active }).withSites sites
      let empty : Bank := { state := .empty, records := [], final := false, live := 0 }
      (s.plan.a.records ≠ [] →
        t = (((begun.withPlan { s.plan with a := { s.plan.a with state := .active } }).withDisp
          { s.disp with fetch := .reading .a 0 0 }).fill).withLink t.link ∧
        (s.countersStill → t.run = { s.run with state := .active } ∧ t.sites = sites ∧ t.disp.fetch ≠ .idle ∧
          t.results = s.results ∧ t.counters = s.counters ∧ t.time = s.time)) ∧
      (s.plan.a.records = [] → s.plan.a.live = 0 → s.disp.window = [] → (∀ c, (s.chan c).running = none) →
        Notice.bankDone.isIn t.link.pendingSet = true ∧
        (s.plan.a.final = true →
          t.run = { s.run with state := .done } ∧ t.plan = { s.plan with a := empty } ∧ t.sites = sites ∧
          t.disp = { s.disp with fetch := .atEnd .a } ∧ t.chans = s.chans ∧
          Notice.runDone.isIn t.link.pendingSet = true) ∧
        (s.plan.a.final = false → s.plan.b.state = .armed → s.plan.b.records ≠ [] →
          t = (((((begun.withPlan { a := empty, b := { s.plan.b with state := .active } }).withDisp
            { s.disp with fetch := .reading .b 0 0 })).raise .bankDone).fill).withLink t.link) ∧
        (s.plan.a.final = false → s.plan.b.state = .armed → s.plan.b.records = [] →
          t.plan = { a := empty, b := if s.plan.b.live = 0 then empty else { s.plan.b with state := .draining } } ∧
          t.sites = sites ∧ t.chans = s.chans ∧
          (s.plan.b.final = true → t.run = { s.run with state := .done } ∧
            t.disp = { s.disp with fetch := .atEnd .b } ∧ Notice.runDone.isIn t.link.pendingSet = true) ∧
          (s.plan.b.final = false → t.run = { s.run with state := .active } ∧
            t.disp = { s.disp with fetch := .starved .b, starved := true } ∧
            Notice.starved.isIn t.link.pendingSet = true)) ∧
        (s.plan.a.final = false → s.plan.b.state ≠ .armed →
          t.run = { s.run with state := .active } ∧ t.plan = { s.plan with a := empty } ∧ t.sites = sites ∧
          t.disp = { s.disp with fetch := .starved .a, starved := true } ∧ t.chans = s.chans ∧
          Notice.starved.isIn t.link.pendingSet = true))

/-- ABORT_RUN in an ACTIVE run is the halt with reason STATION: the window discarded, the fetch STOPPED with the
position it held, every channel aborted with its record posted in ascending channel number and counted as a RESULT
event, the site of a CONTACT record with an outcome other than PASS retired (where no wrap retires a site), every
closed or closing node commanded open into the one EMERGENCY entry, and the banks, the enable set, the outputs and the
Settle Monitors left as they were. The later of two expiries is taken within half a wrap: the model's choice (log entry
27). The relay drive output holds the commands of one event alone: the model's choice (log entry 5). -/
def Obligations.AbortRunHalts : Prop :=
  ∀ (tag : Byte) (p : List Byte) (s : State), p.length ≤ 1024 → s.linkOpen → s.relays.nodes.wf = true →
    (p ≠ [] → exec (.abortRun tag p) s = .next (s.begin.replying 0xB3 tag .length [])) ∧
    (p = [] → s.run.state ≠ .active → exec (.abortRun tag p) s = .next (s.begin.replying 0xB3 tag .state [])) ∧
    (p = [] → s.run.state = .active →
      ∃ t, exec (.abortRun tag p) s = .next t ∧ t.hasReply 0xB3 tag .ok [] none ∧
        haltTaken s.begin .station t)

/-- The record a halt posts for a channel, by the state it finds the channel in. -/
def Obligations.HaltRecordByState : Prop :=
  ∀ (c : Chan) (x : Channel) (k : Running) (now : Time),
    (k.phase = .releasing → haltRecord c x k now = none) ∧
    (∀ r, k.phase = .posting r → haltRecord c x k now = some r) ∧
    ((∀ r, k.phase ≠ .posting r) → k.phase ≠ .releasing →
      ∃ r, haltRecord c x k now = some r ∧ r.label = k.inst.step.label ∧ r.stepIndex = k.inst.stepIndex ∧
        r.bank = k.inst.bank ∧ r.site = k.inst.site ∧ r.channel = c ∧ r.group = k.inst.step.group ∧
        r.outcome = .aborted ∧ r.reading = none ∧ r.clamped = false ∧ r.finish = now ∧
        ((k.phase = .settling ∨ k.phase = .acquiring) →
          r.attempts = k.attempt ∧ r.resettles = x.monitor.resettles ∧ r.settleSamples = x.monitor.settleSamples) ∧
        (∀ q, k.phase = .connecting q → r.attempts = 1 ∧ r.resettles = 0 ∧ r.settleSamples = 0) ∧
        ∀ n, k.phase = .dwelling n → r.attempts = 1 ∧ r.resettles = 0 ∧ r.settleSamples = n)

/-- END_RUN in DONE or HALTED empties both banks and the window, moves the fetch to IDLE, clears the paused and starved
flags and makes the run IDLE; everything else stands. -/
def Obligations.EndRunServed : Prop :=
  ∀ (tag : Byte) (p : List Byte) (s : State), p.length ≤ 1024 → s.linkOpen →
    exec (.endRun tag p) s = .next
      (if p ≠ [] then s.begin.replying 0xB4 tag .length []
      else if s.run.state = .idle ∨ s.run.state = .active then s.begin.replying 0xB4 tag .state []
      else
        (((s.begin.withPlan
          { a := { state := .empty, records := [], final := false, live := 0 }
            b := { state := .empty, records := [], final := false, live := 0 } }).withDisp
          { fetch := .idle, window := [], paused := false, starved := false, examDue := false }).withRun
          { s.run with state := .idle }).replying 0xB4 tag .ok [])

/-- RETIRE_SITE: refused for a site above 7, unconfigured or OFF; a RETIRED site is left as it is; an ACTIVE site is
RETIRED with reason STATION, its waiting instances leave the window, lower their banks' live counts and are counted as
skipped; the examination this starts is made and the window filled before the reply (no counter acting on a wrap; the
walks: DEDUCED, log entry 22; the filling: DEDUCED, log entry 16). -/
def Obligations.RetireSiteServed : Prop :=
  ∀ (tag : Byte) (p : List Byte) (s : State), p.length ≤ 1024 → s.linkOpen →
    (p.length ≠ 1 → exec (.retireSite tag p) s = .next (s.begin.replying 0xB5 tag .length [])) ∧
    ∀ v, p = [v] →
      (7 < v.toNat ∨ s.sites.count ≤ v.toNat →
        exec (.retireSite tag p) s = .next (s.begin.replying 0xB5 tag .range [])) ∧
      ∀ i : Fin 8, i.val = v.toNat → i.val < s.sites.count →
        (s.siteState i = .off → exec (.retireSite tag p) s = .next (s.begin.replying 0xB5 tag .range [])) ∧
        (∀ w, s.siteState i = .retired w →
          exec (.retireSite tag p) s = .next (s.begin.replying 0xB5 tag .ok
            ([0x02, retireReasonCode (.retired w)] ++ leBytes 2 (s.sites.entries.get i).skipped))) ∧
        (s.siteState i = .active → s.transientsClear → s.countersStill →
          ∃ t, exec (.retireSite tag p) s = .next t ∧
            t.hasReply 0xB5 tag .ok ([0x02, 0x03] ++ leBytes 2 (t.sites.entries.get i).skipped) none ∧
            t.siteState i = .retired .station ∧ Notice.siteRetired.isIn t.link.pendingSet = true ∧
            (∀ e ∈ t.disp.window, e.inst.site ≠ .board i) ∧
            min 65535 ((s.sites.entries.get i).skipped +
              (s.disp.window.filter fun e => e.inst.site = .board i).length) ≤ (t.sites.entries.get i).skipped ∧
            t.results = s.results ∧ t.counters = s.counters) ∧
        (s.siteState i = .active → s.transientsClear → s.countersPassive → s.relays.nodes.wf = true →
          ∃ u v t, siteWithdrawn s.begin i .station u ∧
            ((∃ e ∈ s.disp.window, e.inst.site = .board i) → closedFrom u v) ∧
            ((∀ e ∈ s.disp.window, e.inst.site ≠ .board i) → completionTested u v) ∧
            exec (.retireSite tag p) s = .next t ∧
            t = v.fill.withLink t.link ∧ v.fill.pendingKept t ∧
            t.hasReply 0xB5 tag .ok ([0x02, 0x03] ++ leBytes 2 (t.sites.entries.get i).skipped) none)

/-- RESET_PART takes every block to its reset state in one event, commands every closed or closing node open with the
release time in force, keeps the close counts and the Time Base, and treats each latch as CLEAR_INTERLOCK does. The
later of two expiries is taken within half a wrap: the model's choice (log entry 27). The relay drive output holds the
commands of one event alone: the model's choice (log entry 5). -/
def Obligations.ResetPartServed : Prop :=
  ∀ (tag : Byte) (p : List Byte) (s : State), p.length ≤ 1024 → s.linkOpen → s.relays.nodes.wf = true →
    (p ≠ [] → exec (.resetPart tag p) s = .next (s.begin.replying 0x83 tag .length [])) ∧
    (p = [] → ∃ t, exec (.resetPart tag p) s = .next t ∧ t.hasReply 0x83 tag .ok [] none ∧
      t.time = s.time ∧ t.pending = s.pending ∧ t.plan = State.reset.plan ∧ t.sites = State.reset.sites ∧
      t.disp = State.reset.disp ∧ t.chans = State.reset.chans ∧ t.results = State.reset.results ∧
      t.counters = State.reset.counters ∧
      t.run.state = .idle ∧ t.run.enabled = 0 ∧ t.run.outputs = 0 ∧
      (∀ l, t.sense l =
        if (s.sense l).latch = true then
          (if (s.sense l).present = true then { s.sense l with latch := false }
          else { s.sense l with timer := none, latch := true })
        else s.sense l) ∧
      (∀ k : Notice, k.isIn t.link.pendingSet = true ↔
        k = .interlock ∧ ∃ l, (s.sense l).latch = true ∧ (s.sense l).present = false) ∧
      t.link.receiver = s.link.receiver ∧ t.link.fault = false ∧ t.link.errorCount = 0 ∧ t.link.due = [] ∧
      t.link.enableMask = 0 ∧ t.link.watermark = 64 ∧
      t.relays.tOp = 500 ∧ t.relays.tRel = 300 ∧ emergencyOpened s.time s.begin.relays t.relays)

/-! ## Relays -/

/-- OPERATE_EXPIRY of a due close batch: its CLOSING nodes are HELD on the same line, the batch is gone, and the
connection is made: MEASURE and CONTACT turn the stimulus on and settle with a freshly loaded monitor, DISCHARGE dwells
with the stimulus as it was. The stimulus goes on also while a node of an earlier release entry is OPENING on the
channel: the model's reading of R82 and R86 (log entry 39). The model's choices: due means less than half a wrap of the
Time Base past the expiry (log entry 27), and the command changes nothing where no batch is due (log entry 12). -/
def Obligations.OperateExpiryConnects : Prop :=
  ∀ (c : Chan) (s : State), s.link.settled →
    ((∀ b, s.relays.batches.get c = some b → 2147483648 ≤ (s.time - b.expiry).toNat) →
      exec (.operateExpiry c) s = .next s.begin) ∧
    ∀ b k, s.relays.nodes.wf = true → s.relays.batches.get c = some b → (s.time - b.expiry).toNat < 2147483648 →
      (s.chan c).running = some k →
      ∃ nt x, exec (.operateExpiry c) s =
          .next ((s.begin.withRelays { s.begin.relays with
            nodes := nt, batches := s.relays.batches.set c none }).withChan c x) ∧
        (∀ n, (nt.get n).closeCount = (s.relays.nodes.get n).closeCount ∧
          nt.state n =
            match s.relays.nodes.state n with
            | .closing d l => if d = c ∧ n ∈ b.nodes then .held d l else .closing d l
            | y => y) ∧
        (k.inst.step.kind ≠ .discharge →
          x = { running := some { k with phase := .settling }
                stim := { on := true, range := k.inst.step.range, level := k.inst.step.level }
                monitor :=
                  { reference := none, dwellRemaining := k.inst.step.dwell, prescale := k.inst.step.prescale,
                    unit := k.inst.step.units, resettles := 0, settleSamples := 0 }
                reading := { sum := 0, count := 0, overrange := false } }) ∧
        (k.inst.step.kind = .discharge →
          x = { s.chan c with running := some { k with phase := .dwelling 0 } })

/-- RELEASE_ENTRY_EXPIRY of a due entry of cause other than DISPATCH (no counter acting on a wrap, or nothing to
dispatch): its OPENING nodes are FREE and unclaimed, and the entry leaves the queue; the slot goes to the oldest append
that waits; and at the close of the event the window of an ACTIVE run is examined (its walks: DEDUCED, log entry 22).
That END items which cover no node leave the wait list without an entry is DEDUCED (log entry 32). The model's choices:
due means less than half a wrap of the Time Base past the expiry (log entry 27), and the command changes nothing where
no entry is due (log entry 12). The relay drive output holds the commands of one event alone: the model's choice (log
entry 5). -/
def Obligations.ReleaseExpiryFrees : Prop :=
  ∀ s : State, s.link.settled →
    ((∀ e rest, s.relays.queue = e :: rest → 2147483648 ≤ (s.time - e.expiry).toNat) →
      exec .releaseEntryExpiry s = .next s.begin) ∧
    ∀ e rest, s.relays.nodes.wf = true → s.transientsClear → s.relays.queue = e :: rest →
      (s.time - e.expiry).toNat < 2147483648 → e.cause ≠ .dispatch → (s.countersPassive ∨ s.dispatchQuiet) →
      ∃ u v t, exec .releaseEntryExpiry s = .next t.transmit ∧
        u = s.begin.withRelays { s.begin.relays with nodes := u.relays.nodes, queue := rest } ∧
        (∀ n, (u.relays.nodes.get n).closeCount = (s.relays.nodes.get n).closeCount ∧
          u.relays.nodes.state n =
            match s.relays.nodes.state n with
            | .opening d => if n ∈ e.nodes then .free none else .opening d
            | y => y) ∧
        slotGranted u v ∧ closedFrom v t

/-- RELEASE_ENTRY_EXPIRY of a channel's DISPATCH entry (no counter acting on a wrap): the channel's close phase follows
in the same event, then the slot goes to the oldest append that waits, and at the close the window of an ACTIVE run is
examined (its walks: DEDUCED, log entry 22; END items that cover no node: DEDUCED, log entry 32). Every node its
instance needs that is FREE by then is commanded closed and CLOSING on the channel and the needed line, with its close
count one higher; the batch expires T_op later, and one CLOSE event of the number of nodes in it is counted. Where no
node is to close, no command goes out and the connection is made in the same event: the stimulus on and settling, or
dwelling (that it waits for no other release entry is the model's reading of R82 and R86, log entry 39). Due means less
than half a wrap of the Time Base past the expiry: the model's choice (log entry 27). The relay drive output holds the
commands of one event alone: the model's choice (log entry 5). -/
def Obligations.DispatchEntryCloses : Prop :=
  ∀ (s : State) (c : Chan) (k : Running) (e : ReleaseEntry) (rest : List ReleaseEntry), s.relays.nodes.wf = true →
    s.link.settled → s.transientsClear → s.countersPassive →
    s.relays.queue = e :: rest → (s.time - e.expiry).toNat < 2147483648 → e.cause = .dispatch → e.owner = some c →
    (s.chan c).running = some k → k.phase = .connecting .release → (k.inst.nodes.map Prod.fst).Nodup →
    let freed (n : Node) : Prop :=
      (∃ x, s.relays.nodes.state n = .free x) ∨ (n ∈ e.nodes ∧ ∃ d, s.relays.nodes.state n = .opening d)
    let opened (u : State) (n : Node) : Prop := (u.relays.nodes.get n).closeCount = (s.relays.nodes.get n).closeCount ∧
      u.relays.nodes.state n =
        match s.relays.nodes.state n with
        | .opening d => if n ∈ e.nodes then .free none else .opening d
        | y => y
    ∃ u v t, exec .releaseEntryExpiry s = .next t.transmit ∧ slotGranted u v ∧ closedFrom v t ∧
      (∀ d, d ≠ c → u.chan d = s.chan d) ∧ s.pendingKept u ∧
      u = { s with relays := u.relays, chans := u.chans, counters := u.counters, link := u.link } ∧
      u.relays = { s.relays with
        nodes := u.relays.nodes, queue := rest, batches := u.relays.batches, drive := u.relays.drive } ∧
      (∀ d, d ≠ c → u.relays.batches.get d = s.relays.batches.get d) ∧
      (∀ n, n ∉ k.inst.nodes.map Prod.fst → opened u n) ∧
      (∀ q ∈ k.inst.nodes, ¬ freed q.1 → opened u q.1) ∧
      ((∃ q ∈ k.inst.nodes, freed q.1) →
        u.chan c = { s.chan c with running := some { k with phase := .connecting .close } } ∧
        (∃ (closed : List (Node × Line)) (b : CloseBatch), closed.Sublist k.inst.nodes ∧
          (∀ q ∈ k.inst.nodes, q ∈ closed ↔ freed q.1) ∧
          u.relays.batches.get c = some b ∧ b.expiry = s.time + BitVec.ofNat 32 s.relays.tOp ∧
          b.nodes = closed.map Prod.fst ∧ u.relays.drive = (closed.map fun q => .close q.1 c q.2) ∧
          u.counters = s.counted [emitted .close closed.length c k.inst]) ∧
        ∀ n l, (n, l) ∈ k.inst.nodes → freed n →
          u.relays.nodes.get n =
            { state := .closing c l, closeCount := min 16777215 ((s.relays.nodes.get n).closeCount + 1) }) ∧
      ((∀ q ∈ k.inst.nodes, ¬ freed q.1) →
        u.relays.drive = [] ∧ u.relays.batches = s.relays.batches ∧ u.counters = s.counters ∧
        (k.inst.step.kind = .discharge →
          u.chan c = { s.chan c with running := some { k with phase := .dwelling 0 } }) ∧
        (k.inst.step.kind ≠ .discharge →
          u.chan c =
            { running := some { k with phase := .settling }
              stim := { on := true, range := k.inst.step.range, level := k.inst.step.level }
              monitor :=
                { reference := none, dwellRemaining := k.inst.step.dwell, prescale := k.inst.step.prescale,
                  unit := k.inst.step.units, resettles := 0, settleSamples := 0 }
              reading := { sum := 0, count := 0, overrange := false } }))

/-- RELEASE_ENTRY_EXPIRY with an append waiting (no DISPATCH entry; no counter acting on a wrap, or nothing to
dispatch): the freed slot goes to the oldest item of the wait list, in a run of any state. A COMPLETE item's HELD nodes
are commanded open and OPENING in a COMPLETE entry and its channel is IDLE; an END item covers the nodes parked on its
channel then. At the close the window of an ACTIVE run is examined (its walks: DEDUCED, log entry 22), and a run that
has nothing waiting or running behind a fetch at END is DONE with its END release. That END items which cover none
leave without an entry, for the next item, is read from the spec by inference (log entry 32), and due means less than
half a wrap of the Time Base past the expiry, the model's choice (log entry 27). The relay drive output holds the
commands of one event alone: the model's choice (log entry 5). -/
def Obligations.FreedSlotGranted : Prop :=
  ∀ (s : State) (e : ReleaseEntry) (rest : List ReleaseEntry) (passed : List WaitItem) (w : WaitItem)
    (ws : List WaitItem),
    s.relays.nodes.wf = true → s.link.settled → s.transientsClear → s.relays.queue = e :: rest →
    (s.time - e.expiry).toNat < 2147483648 → e.cause ≠ .dispatch → s.relays.waitList = passed ++ w :: ws →
    (∀ v ∈ passed, v.cause = .endRun ∧ ∀ n l, s.relays.nodes.state n ≠ .parked v.ch l) →
    (s.countersPassive ∨ s.dispatchQuiet) →
    let granted (u : State) (cause : ReleaseCause) (covered : Node → Prop) : Prop :=
      (∃ xs, appended s.time { s.relays with queue := rest, drive := [] } u.relays cause [w.ch] (fun _ => covered) xs) ∧
      u.relays = { s.relays with
        nodes := u.relays.nodes, queue := u.relays.queue, waitList := ws, drive := u.relays.drive } ∧
      ∀ n, (u.relays.nodes.get n).closeCount = (s.relays.nodes.get n).closeCount ∧
        (covered n → u.relays.nodes.state n = .opening w.ch) ∧
        (¬ covered n → u.relays.nodes.state n =
          match s.relays.nodes.state n with
          | .opening d => if n ∈ e.nodes then .free none else .opening d
          | y => y)
    (w.cause = .complete → ∃ u t, exec .releaseEntryExpiry s = .next t.transmit ∧ closedFrom u t ∧
      granted u .complete (fun n => ∃ l, s.relays.nodes.state n = .held w.ch l) ∧
      u = (s.withRelays u.relays).withChan w.ch { s.chan w.ch with running := none }) ∧
    (w.cause = .endRun → (∃ n l, s.relays.nodes.state n = .parked w.ch l) →
      ∃ u t, exec .releaseEntryExpiry s = .next t.transmit ∧ closedFrom u t ∧
        granted u .endRun (fun n => ∃ l, s.relays.nodes.state n = .parked w.ch l) ∧ u = s.withRelays u.relays) ∧
    (w.cause = .endRun → (∀ n l, s.relays.nodes.state n ≠ .parked w.ch l) → ws = [] →
      ∃ u t, exec .releaseEntryExpiry s = .next t.transmit ∧ closedFrom u t ∧
        u = s.withRelays { s.relays with nodes := u.relays.nodes, queue := rest, waitList := [], drive := [] } ∧
        ∀ n, (u.relays.nodes.get n).closeCount = (s.relays.nodes.get n).closeCount ∧
          u.relays.nodes.state n =
            match s.relays.nodes.state n with
            | .opening d => if n ∈ e.nodes then .free none else .opening d
            | y => y)

/-! ## Measuring -/

/-- A sample that decides nothing: discarded in IDLE, CONNECTING, POSTING and RELEASING, and counted in DWELLING until
the dwell is complete. A sample in ACQUIRING that does not complete the acquisition: in band it joins the sum and a
clamp code sets the overrange mark; drift within the resettle limit empties the Reading Unit and returns to SETTLING,
or, with a dwell of 1, settles again at once, and offers one RESETTLE event (no counter acting on a wrap). -/
def Obligations.SampleWithoutJudgement : Prop :=
  (∀ (c : Chan) (v : SampleCode) (s : State), s.link.settled → s.transientsClear →
     ((s.chan c).running = none → exec (.channelSample c v) s = .next s.begin) ∧
     ∀ k, (s.chan c).running = some k →
       ((∃ q, k.phase = .connecting q) ∨ (∃ r, k.phase = .posting r) ∨ k.phase = .releasing →
         exec (.channelSample c v) s = .next s.begin) ∧
       ∀ n, k.phase = .dwelling n → n + 1 ≠ k.inst.step.dwell →
         exec (.channelSample c v) s =
           .next (s.begin.withChan c { s.chan c with running := some { k with phase := .dwelling (n + 1) } })) ∧
  ∀ (c : Chan) (v : SampleCode) (s : State) (k : Running) (x : Int), s.link.settled → s.transientsClear →
    (s.chan c).running = some k → k.phase = .acquiring → (s.chan c).monitor.reference = some x →
    let m := (s.chan c).monitor
    let u := (s.chan c).reading
    let r := k.inst.step
    ((v.toInt - x).natAbs ≤ r.band → u.count + 1 ≠ 2 ^ r.acquireExp →
      exec (.channelSample c v) s = .next (s.begin.withChan c
        { s.chan c with
          reading :=
            { sum := u.sum + v.toInt, count := u.count + 1
              overrange := u.overrange || decide (v.toInt = -524288 ∨ v.toInt = 524287) } })) ∧
    (r.band < (v.toInt - x).natAbs → m.resettles < r.resettleLimit → s.countersPassive →
      exec (.channelSample c v) s = .next (((s.begin.withChan c
        { s.chan c with
          running := some { k with phase := if r.dwell - 1 = 0 then .acquiring else .settling }
          monitor := { m with
            reference := some v.toInt, dwellRemaining := r.dwell - 1, resettles := m.resettles + 1 }
          reading := { sum := 0, count := 0, overrange := false } }).offer (emitted .resettle 1 c k.inst)).transmit))

/-- A sample in SETTLING, by CHANNEL_SAMPLE and, where it settles, by SETTLED: the band test moves the reference and
the dwell; a sample that completes the dwell enters ACQUIRING and is not charged; any other is charged to the prescale
counter and then to the unit counter, unless both are 0. -/
def Obligations.SampleInSettling : Prop :=
  ∀ (c : Chan) (v : SampleCode) (s : State) (k : Running), s.link.settled → s.transientsClear →
    (s.chan c).running = some k → k.phase = .settling →
    let m := (s.chan c).monitor
    let r := k.inst.step
    let near := ∃ x, m.reference = some x ∧ (v.toInt - x).natAbs ≤ r.band
    ∀ ref dwell, ((near → ref = m.reference ∧ dwell = m.dwellRemaining - 1) ∧
      (m.reference = none → ref = some v.toInt ∧ dwell = m.dwellRemaining - 1) ∧
      (¬ near → m.reference ≠ none → ref = some v.toInt ∧ dwell = r.dwell - 1)) →
    (dwell = 0 →
      ∀ i, (i = .channelSample c v ∨ i = .settled c v) →
        exec i s = .next (s.begin.withChan c
          { s.chan c with
            running := some { k with phase := .acquiring }
            monitor := { m with
              reference := ref, dwellRemaining := 0, settleSamples := m.settleSamples + 1 }
            reading := { sum := 0, count := 0, overrange := false } })) ∧
    (dwell ≠ 0 → 0 < m.prescale →
      exec (.channelSample c v) s = .next (s.begin.withChan c
        { s.chan c with
          monitor := { m with
            reference := ref, dwellRemaining := dwell, prescale := m.prescale - 1,
            settleSamples := m.settleSamples + 1 } })) ∧
    (dwell ≠ 0 → m.prescale = 0 → 0 < m.unit →
      exec (.channelSample c v) s = .next (s.begin.withChan c
        { s.chan c with
          monitor := { m with
            reference := ref, dwellRemaining := dwell, prescale := r.prescale, unit := m.unit - 1,
            settleSamples := m.settleSamples + 1 } }))

/-- From a fresh load the deadline expires on exactly its (D+1)(P+1)-th charge. -/
def Obligations.DeadlineSpan : Prop :=
  ∀ (r : StepRecord) (n : Nat),
    ((fun o : Option Monitor => o.bind fun m => m.charge r)^[n] (some (.load r))).isSome = true ↔
      n < (r.units + 1) * (r.prescale + 1)

/-- Stages 1 to 4 of a reading. The average is rounded with a half toward plus infinity, exact for k = 0, and the
average of 2^k codes in range is in range; the null is subtracted; the scaled value is rounded with a half toward plus
infinity, 0 for scale 0 and unchanged for scale 16384 with exponent 0; the result is held in the 24-bit range and marked
clamped exactly when it was outside it. -/
def Obligations.ReadingStages : Prop :=
  ((∀ (k : Nat) (sum : Int), k ≤ 8 →
      (k = 0 → average k sum = sum) ∧
      (1 ≤ k → average k sum * 2 ^ k ≤ sum + 2 ^ (k - 1) ∧ sum + 2 ^ (k - 1) < (average k sum + 1) * 2 ^ k) ∧
      (-524288 * 2 ^ k ≤ sum → sum ≤ 524287 * 2 ^ k → -524288 ≤ average k sum ∧ average k sum ≤ 524287)) ∧
   (∀ (d : Int) (scale e : Nat),
     scaled d scale e * 16384 ≤ d * scale * 2 ^ e + 8192 ∧
     d * scale * 2 ^ e + 8192 < (scaled d scale e + 1) * 16384 ∧
     (scale = 0 → scaled d scale e = 0) ∧ (scale = 16384 → e = 0 → scaled d scale e = d) ∧
     (-1048575 ≤ d → d ≤ 1048575 → scale ≤ 65535 → e ≤ 7 → (d * scale * 2 ^ e).natAbs ≤ 8795950416000)) ∧
   (∀ a null : Int, -524288 ≤ a → a ≤ 524287 → -524288 ≤ null → null ≤ 524287 →
     -1048575 ≤ a - null ∧ a - null ≤ 1048575) ∧
   ∀ (r : StepRecord) (sum : Int),
     computeReading r sum = fitReading (scaled (average r.acquireExp sum - r.null) r.scale r.scaleExp)) ∧
  ∀ u : Int,
    (8388607 < u → fitReading u = (8388607, true)) ∧ (u < -8388608 → fitReading u = (-8388608, true)) ∧
    (-8388608 ≤ u → u ≤ 8388607 → fitReading u = (u, false))

/-- Stage 5 of a reading: the first case of the judgement table that applies, and its consequences. -/
def Obligations.ReadingJudged : Prop :=
  ∀ (r : StepRecord) (u : ReadingUnit),
    let m := (computeReading r u.sum).1
    let clamped := (computeReading r u.sum).2
    let j := judgeReading r u
    j = (if u.overrange = true then { outcome := .overrange, reading := none, clamped := false }
      else if clamped = true ∧ m = 8388607 then { outcome := .high, reading := some m, clamped := true }
      else if clamped = true ∧ m = -8388608 then { outcome := .low, reading := some m, clamped := true }
      else if m < r.lo then { outcome := .low, reading := some m, clamped := clamped }
      else if r.hi < m then { outcome := .high, reading := some m, clamped := clamped }
      else { outcome := .pass, reading := some m, clamped := clamped }) ∧
    (∀ x, j.reading = some x → -8388608 ≤ x ∧ x ≤ 8388607) ∧
    (j.outcome = .pass → j.clamped = false) ∧
    (r.hi < r.lo → j.outcome ≠ .pass) ∧
    (r.lo = -8388608 → r.hi = 8388607 → u.overrange = false → clamped = false → j.outcome = .pass) ∧
    (r.scale = 0 → m = 0 ∧ clamped = false) ∧
    (u.overrange = true → ∀ k, wantsRetry k j = false)

/-- A LOW or HIGH judgement with attempts left starts a further attempt in the same event, by CHANNEL_SAMPLE and by
ACQUISITION_COMPLETE: the attempt rises by one, the monitor is loaded, the Reading Unit emptied, the stimulus kept,
and one RETRY event offered (no counter acting on a wrap). -/
def Obligations.JudgementRetries : Prop :=
  ∀ (c : Chan) (v : SampleCode) (s : State) (k : Running) (x : Int), s.transientsClear →
    s.countersPassive → (s.chan c).running = some k → k.phase = .acquiring → (s.chan c).monitor.reference = some x →
    let r := k.inst.step
    let u : ReadingUnit :=
      { sum := (s.chan c).reading.sum + v.toInt, count := (s.chan c).reading.count + 1
        overrange := (s.chan c).reading.overrange || decide (v.toInt = -524288 ∨ v.toInt = 524287) }
    (v.toInt - x).natAbs ≤ r.band → u.count = 2 ^ r.acquireExp →
    ((judgeReading r u).outcome = .low ∨ (judgeReading r u).outcome = .high) → k.attempt ≤ r.retries →
    ∀ i, (i = .channelSample c v ∨ i = .acquisitionComplete c v) →
      exec i s = .next (((s.begin.withChan c
        { s.chan c with
          running := some { k with attempt := k.attempt + 1, phase := .settling }
          monitor :=
            { reference := none, dwellRemaining := r.dwell, prescale := r.prescale, unit := r.units, resettles := 0,
              settleSamples := 0 }
          reading := { sum := 0, count := 0, overrange := false } }).offer (emitted .retry 1 c k.inst)).transmit)

/-- A judgement that forms a record, an exhausted drift among them with its RESETTLE event (no counter acting on a
wrap): with 252 or more records in the Result Queue the channel stays in POSTING with that record, its stimulus off, at
the young end of the list of waiting posts; with fewer the record is posted in the same event, at the young end of the
queue, and one RESULT event with its outcome is offered to the counters. -/
def Obligations.JudgementRecorded : Prop :=
  (∀ (i : Instr) (c : Chan) (s : State) (k : Running) (x : Channel) (before : List Occurrence) (rec : ResultRecord),
     s.transientsClear → (before = [] ∨ s.countersPassive) → (s.chan c).running = some k →
     252 ≤ s.results.records.length → formsRecord i c s k x before rec →
     exec i s = .next (before.foldl State.offer ((s.begin.withChan c
       { x with running := some { k with phase := .posting rec }, stim := { x.stim with on := false } }).withResults
       { s.results with waiting := s.results.waiting ++ [c] })).transmit) ∧
  ∀ (i : Instr) (c : Chan) (s : State) (k : Running) (x : Channel) (before : List Occurrence) (rec : ResultRecord),
     s.transientsClear → s.countersPassive → (s.chan c).running = some k → s.results.records.length < 252 →
     formsRecord i c s k x before rec →
     ∃ t, exec i s = .next t ∧ t.results = { s.results with records := s.results.records ++ [rec] } ∧ t.time = s.time ∧
       (s.countersStill → t.counters = s.counters) ∧
       (s.dispatchQuiet → t.counters = s.counted (before ++
         [{ emitted .result 1 c k.inst with outcome := some rec.outcome }])) ∧
       (s.link.watermark ≤ s.results.records.length + 1 → Notice.resultsReady.isIn t.link.pendingSet = true)

/-- A judgement that forms a record with room in the Result Queue is a normal post, every effect of it as `postMade`
lists them (no counter acting on a wrap; or nothing to dispatch and no wrap that retires a site): the bank's live count
falls, and a DRAINING bank whose count it brings to 0 is EMPTY with BANK_DONE raised; a CONTACT record with an outcome
other than PASS retires its ACTIVE site with reason CONTACT, whose waiting instances leave the window, lower their
banks' live counts and count as skipped; a HOLD step's nodes are PARKED; any other step's HELD nodes are commanded open
in one COMPLETE entry where a slot is free and no append waits, and otherwise the channel is RELEASING with its item on
the wait list; at the close the window of an ACTIVE run is examined, or a halt that a counter's HALT wrap asked for is
taken; the post that leaves nothing waiting or running behind a fetch at END makes the run DONE with its END release.
One walk for the removals of a CONTACT retirement comes before the channel parks, and the walks at the close go on
until no instance leaves: the model's choice (log entries 9 and 22). The later of two expiries is taken within half a
wrap: the model's choice (log entry 27). The relay drive output holds the commands of one event alone: the model's
choice (log entry 5). -/
def Obligations.PostParksOrReleases : Prop :=
  ∀ (i : Instr) (c : Chan) (s : State) (k : Running) (x : Channel) (before : List Occurrence) (rec : ResultRecord),
    s.relays.nodes.wf = true → s.transientsClear → (s.countersPassive ∨ (s.dispatchQuiet ∧ s.noRetireWrap)) →
    (s.chan c).running = some k → s.results.records.length < 252 → formsRecord i c s k x before rec →
    let formed := before.foldl State.offer (s.begin.withChan c { x with stim := { x.stim with on := false } })
    ∃ t, exec i s = .next t.transmit ∧ postMade formed c k rec t

/-! ## Results -/

/-- READ_RESULTS takes the oldest records, at most 32, and reports them with the count that remains; the waiting posts
are then granted, oldest first, while the count is below 252, and the reply's count includes them; each grant is a
normal post with every effect of one (no counter acting on a wrap; or nothing to dispatch and no wrap that retires a
site). The first grant, or a later one, whose RESULT event wraps a HALT counter of an ACTIVE run halts it with reason
LIMIT: the posts still waiting and the records of the other channels are posted from the reserve, and nothing more is
granted. That each grant has its own examination before the next is DEDUCED (log entry 31), and so are the walks of
that examination (log entry 22). The relay drive output holds the commands of one event alone: the model's choice (log
entry 5). The later of two expiries is taken within half a wrap (log entry 27). -/
def Obligations.ReadResultsServed : Prop :=
  ∀ (tag : Byte) (p : List Byte) (s : State), p.length ≤ 1024 → s.linkOpen →
    (p.length ≠ 1 → exec (.readResults tag p) s = .next (s.begin.replying 0xC0 tag .length [])) ∧
    ∀ x, p = [x] →
      let taken := s.results.records.take (max 1 (min 32 x.toNat))
      let left := s.results.records.drop (max 1 (min 32 x.toNat))
      (s.results.waiting = [] →
        ∃ t, exec (.readResults tag p) s = .next t ∧
          t = (s.begin.withResults { s.results with records := left }).withLink t.link ∧
          t.hasReply 0xC0 tag .ok
            (BitVec.ofNat 8 taken.length :: leBytes 2 left.length ++ taken.flatMap encodeResult) none ∧
          (Notice.resultsReady.isIn t.link.pendingSet = true ↔
            Notice.resultsReady.isIn s.link.pendingSet = true ∨ s.link.watermark ≤ left.length)) ∧
      ∀ recs : List ResultRecord, s.results.waiting.Nodup →
        List.Forall₂ (fun c rec => ∃ k, (s.chan c).running = some k ∧ k.phase = .posting rec) s.results.waiting recs →
        s.transientsClear →
        let granted := min recs.length (252 - left.length)
        let taking := s.begin.withResults { s.results with records := left }
        (s.countersPassive →
          ∃ t, exec (.readResults tag p) s = .next t ∧ t.results.records = left ++ recs.take granted ∧
            t.results.waiting = s.results.waiting.drop granted ∧
            t.hasReply 0xC0 tag .ok
              (BitVec.ofNat 8 taken.length :: leBytes 2 (left.length + granted) ++ taken.flatMap encodeResult) none) ∧
        ((s.countersPassive ∨ (s.dispatchQuiet ∧ s.noRetireWrap)) → s.relays.nodes.wf = true →
          ∃ u t, postsMade (s.results.waiting.zip recs) taking u ∧ exec (.readResults tag p) s = .next t ∧
            t = u.withLink t.link ∧ u.pendingKept t ∧
            (s.link.watermark ≤ u.results.records.length → Notice.resultsReady.isIn t.link.pendingSet = true) ∧
            t.hasReply 0xC0 tag .ok
              (BitVec.ofNat 8 taken.length :: leBytes 2 u.results.records.length ++ taken.flatMap encodeResult) none) ∧
        ∀ c cs rec rest, s.results.waiting = c :: cs → recs = rec :: rest → left.length < 252 →
          s.run.state = .active → s.counters.frozen = false →
          (∃ j : Fin 8, let q := s.counters.units.get j
            q.action = .halt ∧ q.matchesOcc (resultEvent rec) = true ∧ 4294967296 ≤ q.value.toNat + q.amount 1) →
          let records := left ++ rec :: allChans.filterMap fun d =>
            if d = c then none else (s.chan d).running.bind fun k => haltRecord d (s.chan d) k s.time
          ∃ t, exec (.readResults tag p) s = .next t ∧ t.run = { s.run with state := .halted .limit } ∧
            Notice.runHalted.isIn t.link.pendingSet = true ∧ t.results = { records := records, waiting := [] } ∧
            (∀ d, (t.chan d).running = none) ∧ t.disp.window = [] ∧
            t.hasReply 0xC0 tag .ok
              (BitVec.ofNat 8 taken.length :: leBytes 2 records.length ++ taken.flatMap encodeResult) none

/-- The 20 bytes of a result record give its fields back, the outcome by its code. -/
def Obligations.ResultRecordBytes : Prop :=
  [Verdict.pass, .low, .high, .unsettled, .overrange, .aborted, .done].map verdictNo = [0, 1, 2, 3, 4, 5, 6] ∧
  ∀ r : ResultRecord, r.label < 65536 → r.stepIndex < 256 → r.group < 16 → r.attempts < 16 → r.resettles < 16 →
    r.settleSamples < 4294967296 → (∀ x, r.reading = some x → -8388608 ≤ x ∧ x ≤ 8388607) →
    let w := encodeResult r
    w.length = 20 ∧ le (bytesAt w 0 2) = r.label ∧ natAt w 2 = r.stepIndex ∧ byteAt w 3 = bankCode r.bank ∧
    byteAt w 4 = siteCode r.site ∧ natAt w 5 = r.channel.val + 16 * r.group ∧ natAt w 6 = verdictNo r.outcome ∧
    natAt w 7 = r.attempts + 16 * r.resettles ∧
    natAt w 8 = (if r.reading.isSome then 1 else 0) + 2 * (if r.clamped then 1 else 0) ∧
    sle (bytesAt w 9 3) = r.reading.getD 0 ∧ le (bytesAt w 12 4) = r.settleSamples ∧
    le (bytesAt w 16 4) = r.finish.toNat

/-- A LOAD_STEPS payload laid out from step records decodes to exactly those records: no bit of a field is dropped. The
bytes of each record are 33 and two for each reference, with every field at its offset, and bits 2 to 7 of the flag byte
are 0. A field of several bytes is read and written least significant byte first, a signed one in two's complement. -/
def Obligations.LoadPayloadRoundTrip : Prop :=
  (∀ a b c d : Byte, le [a, b] = (b ++ a).toNat ∧ le [a, b, c, d] = (d ++ (c ++ (b ++ a))).toNat ∧
    sle [a, b] = (b ++ a).toInt ∧ sle [a, b, c] = (c ++ (b ++ a)).toInt) ∧
  (∀ (v : Nat) (x : Int), leBytes 2 v = [BitVec.ofNat 8 v, BitVec.ofNat 8 (v / 256)] ∧
    leBytes 4 v =
      [BitVec.ofNat 8 v, BitVec.ofNat 8 (v / 256), BitVec.ofNat 8 (v / 65536), BitVec.ofNat 8 (v / 16777216)] ∧
    sleBytes 2 x = [BitVec.ofInt 8 x, BitVec.ofInt 8 (x / 256)] ∧
    sleBytes 3 x = [BitVec.ofInt 8 x, BitVec.ofInt 8 (x / 256), BitVec.ofInt 8 (x / 65536)]) ∧
  ∀ (bc : Byte) (ws : List WireRecord), ws.length ≤ 255 →
    (∀ w ∈ ws, w.label < 65536 ∧ w.group < 256 ∧ w.range < 256 ∧ w.acquireExp < 256 ∧ -32768 ≤ w.level ∧
      w.level ≤ 32767 ∧ w.band < 65536 ∧ w.dwell < 65536 ∧ w.units < 256 ∧ w.prescale < 256 ∧
      w.resettleLimit < 256 ∧ w.retries < 256 ∧ w.scaleExp < 256 ∧ -8388608 ≤ w.null ∧ w.null ≤ 8388607 ∧
      w.scale < 65536 ∧ -8388608 ≤ w.lo ∧ w.lo ≤ 8388607 ∧ -8388608 ≤ w.hi ∧ w.hi ≤ 8388607 ∧
      w.force.length < 256 ∧ w.ret.length < 256 ∧ w.guard.length < 256 ∧
      ∀ n ∈ w.force ++ w.ret ++ w.guard, n < 65536) →
    decodeLoadSteps (bc :: BitVec.ofNat 8 ws.length :: ws.flatMap encodeRecord) = some (bc, ws) ∧
    ∀ w ∈ ws, recordFields (encodeRecord w) w ∧
      natAt (encodeRecord w) 4 = (if w.barrier = true then 1 else 0) + (if w.hold = true then 2 else 0)

/-! ## Outcome Counters -/

/-- SET_COUNTER: LENGTH, then RANGE for a code or a mask bit that names nothing or edge on an occurrence event, else
the counter takes the settings and the preload with its flag and edge memory clear, and the reply echoes the request.
READ_COUNTERS reports the eight values and flags and the frozen flag and changes nothing; CLEAR_OVERFLOW clears the
named flags alone; FREEZE_COUNTERS sets or clears the frozen flag alone. The codes of the events and actions are
those of R179. -/
def Obligations.CounterRequestsServed : Prop :=
  [CounterEvent.result, .dispatch, .retry, .resettle, .close, .recall, .window, .blocked, .busy, .queue].map eventCode =
    [0, 1, 2, 3, 4, 5, 6, 7, 8, 9] ∧
  [CounterAction.none, .freeze, .retire, .halt].map actionCode = [0, 1, 2, 3] ∧
  (∀ (tag : Byte) (p : List Byte) (s : State), p.length ≤ 1024 → s.linkOpen →
     (p.length ≠ 15 → exec (.setCounter tag p) s = .next (s.begin.replying 0xD0 tag .length [])) ∧
     ∀ i e c s0 s1 g o th inv ed a p0 p1 p2 p3 : Byte,
       p = [i, e, c, s0, s1, g, o, th, inv, ed, a, p0, p1, p2, p3] →
       let bad := 7 < i.toNat ∨ 9 < e.toNat ∨ 15 < c.toNat ∨ 1 < s1.toNat ∨ 16 < g.toNat ∨ 127 < o.toNat ∨
         1 < inv.toNat ∨ 1 < ed.toNat ∨ 3 < a.toNat ∨ (ed = 1 ∧ e.toNat < 6)
       (bad → exec (.setCounter tag p) s = .next (s.begin.replying 0xD0 tag .range [])) ∧
       (¬ bad → ∃ (ix : Fin 8) (k : Counter),
         exec (.setCounter tag p) s =
           .next ((s.begin.withCounters { s.counters with units := s.counters.units.set ix k }).replying
             0xD0 tag .ok p) ∧
         ix.val = i.toNat ∧ eventCode k.event = e ∧ k.chMask.toNat = c.toNat ∧
         k.siteMask.toNat = s0.toNat + 256 * s1.toNat ∧ k.group = (if g = 16 then none else some g.toNat) ∧
         k.outcomeMask.toNat = o.toNat ∧ k.threshold = th.toNat ∧ k.invert = decide (inv = 1) ∧
         k.edge = decide (ed = 1) ∧ actionCode k.action = a ∧
         k.value.toNat = p0.toNat + 256 * p1.toNat + 65536 * p2.toNat + 16777216 * p3.toNat ∧
         k.overflow = false ∧ k.edgeHeld = false)) ∧
  ∀ (tag : Byte) (p : List Byte) (s : State), p.length ≤ 1024 → s.linkOpen →
    exec (.readCounters tag p) s = .next
      (if p ≠ [] then s.begin.replying 0xD1 tag .length []
      else s.begin.replying 0xD1 tag .ok
        (allEight.flatMap (fun i => leBytes 4 (s.counters.units.get i).value.toNat) ++
          [BitVec.ofNat 8 ((allEight.map fun i =>
            if (s.counters.units.get i).overflow then 2 ^ i.val else 0).sum),
           if s.counters.frozen then 1 else 0])) ∧
    (p.length ≠ 1 → exec (.clearOverflow tag p) s = .next (s.begin.replying 0xD2 tag .length []) ∧
      exec (.freezeCounters tag p) s = .next (s.begin.replying 0xD3 tag .length [])) ∧
    ∀ m, p = [m] →
      (∃ x : Eight Counter,
        exec (.clearOverflow tag p) s =
          .next ((s.begin.withCounters { s.counters with units := x }).replying 0xD2 tag .ok
            [BitVec.ofNat 8 ((allEight.map fun i => if (x.get i).overflow then 2 ^ i.val else 0).sum)]) ∧
        ∀ i : Fin 8, x.get i =
          { s.counters.units.get i with
            overflow := (s.counters.units.get i).overflow && !(m.getLsbD i.val) }) ∧
      exec (.freezeCounters tag p) s = .next
        (if 1 < m.toNat then s.begin.replying 0xD3 tag .range []
        else (s.begin.withCounters { s.counters with frozen := decide (m = 1) }).replying 0xD3 tag .ok [m])

/-- An occurrence matches a counter of its event where the channel filter, and the site, group and outcome filters on
what it carries, pass; the amount is the value with threshold 0, and otherwise 1 where the condition holds, for a
counter with edge only where its memory is not held. The eight counters count one occurrence together: each by its own
settings and by the frozen flag as it stood, modulo 2^32 with its overflow flag set at the wrap; a FREEZE wrap sets the
frozen flag, a HALT wrap asks for a halt, a RETIRE wrap retires the ACTIVE sites of its mask, and any wrap raises
COUNTER_OVERFLOW. A LIMIT retirement takes the site's waiting instances out of the window, counts them as skipped,
lowers their banks' live counts and raises SITE_RETIRED; nothing else changes. A halt asked for is taken at the close
of the event: an ACTIVE run is HALTED with reason LIMIT; any other run stands. In the emergency open of that halt the
later of two expiries is taken within half a wrap (log entry 27), and the relay drive output holds the commands of one
event alone (log entry 5): the model's choices. -/
def Obligations.OccurrenceCounted : Prop :=
  (∀ (k : Counter) (o : Occurrence), k.matchesOcc o = true ↔ k.event = o.event ∧ k.chMask.getLsbD o.ch.val = true ∧
    (∀ i : Fin 8, o.site = some (.board i) → k.siteMask.getLsbD i.val = true) ∧
    (o.site = some .panel → k.siteMask.getLsbD 8 = true) ∧
    (∀ g, o.group = some g → k.group = none ∨ k.group = some g) ∧
    ∀ j (v : Verdict), [Verdict.pass, .low, .high, .unsettled, .overrange, .aborted, .done][j]? = some v →
      o.outcome = some v → k.outcomeMask.getLsbD j = true) ∧
  (∀ (k : Counter) (v : Nat),
    let holds : Prop := if k.invert = true then v < k.threshold else k.threshold ≤ v
    (k.threshold = 0 → k.amount v = v) ∧
    (k.threshold ≠ 0 → holds → (k.edge = false ∨ k.edgeHeld = false) → k.amount v = 1) ∧
    (k.threshold ≠ 0 → (¬ holds ∨ (k.edge = true ∧ k.edgeHeld = true)) → k.amount v = 0)) ∧
  (∀ s : State, s.run.haltAsked = true →
    (s.run.state = .active → s.relays.nodes.wf = true → haltTaken s .limit s.closeEvent) ∧
    (s.run.state ≠ .active →
      s.closeEvent = (s.withRun { s.run with haltAsked := false }).withDisp { s.disp with examDue := false })) ∧
  ∀ (s : State) (o : Occurrence),
    let hit (k : Counter) : Prop := k.matchesOcc o = true ∧ s.counters.frozen = false
    let total (k : Counter) : Nat := k.value.toNat + k.amount o.value
    let wraps (i : Fin 8) : Prop := hit (s.counters.units.get i) ∧ 4294967296 ≤ total (s.counters.units.get i)
    (∀ i : Fin 8, let k := s.counters.units.get i
      (¬ hit k → (s.offer o).counters.units.get i = k) ∧
      (hit k → (s.offer o).counters.units.get i =
        { k with value := BitVec.ofNat 32 (total k), overflow := k.overflow || decide (4294967296 ≤ total k) })) ∧
    ((s.offer o).counters.frozen = true ↔
      s.counters.frozen = true ∨ ∃ i, wraps i ∧ (s.counters.units.get i).action = .freeze) ∧
    ((s.offer o).run.haltAsked = true ↔
      s.run.haltAsked = true ∨ ∃ i, wraps i ∧ (s.counters.units.get i).action = .halt) ∧
    (Notice.counterOverflow.isIn (s.offer o).link.pendingSet = true ↔
      Notice.counterOverflow.isIn s.link.pendingSet = true ∨ ∃ i, wraps i) ∧
    (∀ i, wraps i → (s.counters.units.get i).action = .retire → ∀ j : Fin 8,
      (s.counters.units.get i).siteMask.getLsbD j.val = true → s.siteState j = .active →
      (s.offer o).siteState j = .retired .limit ∧ Notice.siteRetired.isIn (s.offer o).link.pendingSet = true) ∧
    ∃ t, wrapsTaken s (s.offer o).counters (s.offer o).run.haltAsked wraps t ∧
      s.offer o = t.withDisp { t.disp with
        examDue := s.disp.examDue || decide (t.disp.window.length < s.disp.window.length) }

/-- WINDOW reads the window entries that pass the site and group filters, BLOCKED those of them with reason ORDER, NODE
or RECALL, BUSY the channels of the mask that are not IDLE, QUEUE the Result Queue's count. MONITOR_TICK at a Time Base
multiple of 4 completes: every level counter adds its amount unless frozen and then follows its condition, whatever
else is set; the counters of occurrence events stand. A wrap raises COUNTER_OVERFLOW and acts: FREEZE sets the frozen
flag, RETIRE retires the ACTIVE sites of its mask with every effect of a retirement, HALT halts an ACTIVE run with
reason LIMIT at the close of the event. With no halt the close of the event follows: the examination where instances
left the window (its walks: DEDUCED, log entry 22), and the completion test. With no wrap nothing but the counters
changes. The model's choices: a tick already taken at this Time Base value is not taken again (log entry 6), the
command changes nothing at any other time (log entry 12), the later of two expiries is taken within half a wrap (log
entry 27), and the relay drive output holds the commands of one event alone (log entry 5). -/
def Obligations.MonitorTickCounted : Prop :=
  (∀ (s : State) (k : Counter),
    let shown := s.disp.window.filter k.shows
    (k.event = .window → s.levelValue k = shown.length) ∧
    (k.event = .blocked → s.levelValue k =
      (shown.filter fun e => decide (e.reason ∈ [Blocked.order, .node, .recall])).length) ∧
    (k.event = .busy → s.levelValue k =
      ((List.finRange 4).filter fun c => k.chMask.getLsbD c.val && (s.chan c).running.isSome).length) ∧
    (k.event = .queue → s.levelValue k = s.results.records.length)) ∧
  ∀ s : State, s.link.settled →
    (¬ (s.time.toNat % 4 = 0 ∧ s.tickTaken = false) → exec .monitorTick s = .next s.begin) ∧
    (s.time.toNat % 4 = 0 → s.tickTaken = false → s.transientsClear →
      let level (k : Counter) : Prop := k.event ∈ [CounterEvent.window, .blocked, .busy, .queue]
      let total (k : Counter) : Nat :=
        k.value.toNat + (if s.counters.frozen = true then 0 else k.amount (s.levelValue k))
      let wraps (i : Fin 8) : Prop :=
        level (s.counters.units.get i) ∧ 4294967296 ≤ total (s.counters.units.get i)
      let acts (a : CounterAction) : Prop := ∃ i, wraps i ∧ (s.counters.units.get i).action = a
      let halts : Prop := acts .halt ∧ s.run.state = .active
      ∃ (b : CounterBlock) (asked : Bool) (u t : State), exec .monitorTick s = .next t.transmit ∧
        (∀ i : Fin 8, let k := s.counters.units.get i
          let v := s.levelValue k
          (¬ level k → b.units.get i = k) ∧
          (level k → b.units.get i =
            { k with
              value := BitVec.ofNat 32 (total k)
              overflow := k.overflow || decide (4294967296 ≤ total k)
              edgeHeld := if k.invert = true then decide (v < k.threshold) else decide (k.threshold ≤ v) })) ∧
        (b.frozen = true ↔ s.counters.frozen = true ∨ acts .freeze) ∧ (asked = true ↔ acts .halt) ∧
        wrapsTaken { s.begin with tickTaken := true } b asked wraps u ∧ u.pendingKept t ∧
        (∀ i, wraps i → Notice.counterOverflow.isIn t.link.pendingSet = true) ∧
        (∀ i, wraps i → (s.counters.units.get i).action = .retire → ∀ j : Fin 8,
          (s.counters.units.get i).siteMask.getLsbD j.val = true → s.siteState j = .active →
          t.siteState j = .retired .limit ∧ Notice.siteRetired.isIn t.link.pendingSet = true) ∧
        (halts → t.run.state = .halted .limit ∧ (∀ j, u.siteState j ≠ .active →
            t.sites.entries.get j = u.sites.entries.get j) ∧
          (s.relays.nodes.wf = true → haltTaken u .limit t)) ∧
        (¬ halts →
          let w := u.withRun s.run
          let left : Prop := u.disp.window.length < s.disp.window.length
          (¬ left → s.relays.nodes.wf = true → completionTested w t) ∧ (¬ left → s.completed = false → t = w) ∧
          (left → t = (w.withDisp { w.disp with examDue := true }).closeEvent ∧
            ((w.countersPassive ∨ w.dispatchQuiet) → s.relays.nodes.wf = true → closedFrom w t))))

/-! ## Sense lines -/

/-- SENSE_LINE_CHANGE takes the level; with the latch clear a loss starts the timer and a return stops it; with the
latch set the timer is left alone. QUALIFICATION_EXPIRY of a line lost for 2000 µs sets its latch, stops its timer and
raises INTERLOCK; an ACTIVE run is halted with reason INTERLOCK, every effect of the halt as `haltTaken` lists them
(the abort posts, the fetch STOPPED, the emergency open); in any other run nothing else changes. That the command
changes nothing sooner is the model's choice (log entry 12), and so is that the later of two expiries is taken within
half a wrap (log entry 27) and that the relay drive output holds the commands of one event alone (log entry 5). -/
def Obligations.SenseLinesQualified : Prop :=
  (∀ (l : SenseLine) (present : Bool) (s : State), s.link.settled →
     let x := s.sense l
     exec (.senseLineChange l present) s = .next (s.begin.withSense l
       (if x.present = present then x
       else if present = true then { x with present := true, timer := none }
       else if x.latch = true then { x with present := false, timer := none }
       else { x with present := false, timer := some s.time }))) ∧
  ∀ (l : SenseLine) (s : State), s.link.settled →
    ((∀ start, (s.sense l).timer = some start → (s.time - start).toNat < 2000) →
      exec (.qualificationExpiry l) s = .next s.begin) ∧
    ∀ start, (s.sense l).timer = some start → 2000 ≤ (s.time - start).toNat →
      ∃ t, exec (.qualificationExpiry l) s = .next t ∧
        t.sense l = { s.sense l with timer := none, latch := true } ∧
        Notice.interlock.isIn t.link.pendingSet = true ∧
        (s.run.state = .active → t.run.state = .halted .interlock ∧ t.disp.window = [] ∧
          ∀ c, (t.chan c).running = none) ∧
        (s.run.state = .active → s.relays.nodes.wf = true →
          haltTaken ((s.begin.withSense l { s.sense l with timer := none, latch := true }).raise .interlock) .interlock
            t) ∧
        (s.run.state ≠ .active →
          t = (s.begin.withSense l { s.sense l with timer := none, latch := true }).withLink t.link)

/-! ## What every step keeps -/

/-- Every step keeps the capacities and ranges. -/
def Obligations.StepKeepsBounds : Prop :=
  ∀ s t : State, s.bounded → step s = .next t → t.bounded

/-- Every step keeps: a stimulus is on only in SETTLING or ACQUIRING, with the batches and wait-list items belonging to
channels in the states that own them. -/
def Obligations.StepKeepsStimulusSafe : Prop :=
  ∀ s t : State, s.stimulusSafe → step s = .next t → t.stimulusSafe

/-- Every step keeps the node table canonical and every PARKED node's channel IDLE. -/
def Obligations.StepKeepsParkedSafe : Prop :=
  ∀ s t : State, s.parkedSafe → step s = .next t → t.parkedSafe

/-- Every step keeps: nothing waits or runs outside an ACTIVE run, an ACTIVE bank is the one the fetch reads, no latch
is set in an ACTIVE run, and the model's transient fields are clear. -/
def Obligations.StepKeepsRunSound : Prop :=
  ∀ s t : State, s.runSound → step s = .next t → t.runSound

/-- The state after reset meets every invariant. -/
def Obligations.ResetIsSound : Prop :=
  State.reset.bounded ∧ State.reset.stimulusSafe ∧ State.reset.parkedSafe ∧ State.reset.runSound ∧
    State.reset.link.settled
end

