-- ==== Sys2Proof/Laws/State.lean ====
section
/-! SUPPORT. The fields of every named update of State, one lemma each, true by `rfl`; and the two fixed-size tables. -/

namespace Sys2Proof

/-! ## Tables of four and of eight -/

@[simp] theorem Four.get_set {α : Type} (f : Four α) (c d : Chan) (x : α) :
    (f.set c x).get d = if d = c then x else f.get d := by
  fin_cases c <;> fin_cases d <;> rfl

@[simp] theorem Four.get_fill {α : Type} (x : α) (c : Chan) : (Four.fill x).get c = x := by
  fin_cases c <;> rfl

/-- A table is its four values. -/
theorem Four.ext_get {α : Type} {f g : Four α} (h : ∀ c, f.get c = g.get c) : f = g := by
  cases f; cases g
  have h0 := h 0; have h1 := h 1; have h2 := h 2; have h3 := h 3
  simp only [Four.get] at h0 h1 h2 h3
  simp [h0, h1, h2, h3]

@[simp] theorem Eight.get_set {α : Type} (f : Eight α) (i j : Fin 8) (x : α) :
    (f.set i x).get j = if j = i then x else f.get j := by
  fin_cases i <;> fin_cases j <;> rfl

@[simp] theorem Eight.get_fill {α : Type} (x : α) (i : Fin 8) : (Eight.fill x).get i = x := by
  fin_cases i <;> rfl

/-- A table is its eight values. -/
theorem Eight.ext_get {α : Type} {f g : Eight α} (h : ∀ i, f.get i = g.get i) : f = g := by
  cases f; cases g
  have h0 := h 0; have h1 := h 1; have h2 := h 2; have h3 := h 3
  have h4 := h 4; have h5 := h 5; have h6 := h 6; have h7 := h 7
  simp only [Eight.get] at h0 h1 h2 h3 h4 h5 h6 h7
  simp [h0, h1, h2, h3, h4, h5, h6, h7]

theorem mem_allChans (c : Chan) : c ∈ allChans := by fin_cases c <;> decide

theorem mem_allEight (i : Fin 8) : i ∈ allEight := by fin_cases i <;> decide

namespace Machine

@[simp] theorem Plan.get_set (p : Plan) (w v : BankId) (k : Bank) :
    (p.set w k).get v = if v = w then k else p.get v := by
  cases w <;> cases v <;> rfl

/-! ## Named updates of State -/

@[simp] theorem State.withPlan_time (s : State) (x : Plan) : (s.withPlan x).time = s.time := rfl
@[simp] theorem State.withPlan_tickTaken (s : State) (x : Plan) : (s.withPlan x).tickTaken = s.tickTaken := rfl
@[simp] theorem State.withPlan_plan (s : State) (x : Plan) : (s.withPlan x).plan = x := rfl
@[simp] theorem State.withPlan_sites (s : State) (x : Plan) : (s.withPlan x).sites = s.sites := rfl
@[simp] theorem State.withPlan_disp (s : State) (x : Plan) : (s.withPlan x).disp = s.disp := rfl
@[simp] theorem State.withPlan_relays (s : State) (x : Plan) : (s.withPlan x).relays = s.relays := rfl
@[simp] theorem State.withPlan_chans (s : State) (x : Plan) : (s.withPlan x).chans = s.chans := rfl
@[simp] theorem State.withPlan_results (s : State) (x : Plan) : (s.withPlan x).results = s.results := rfl
@[simp] theorem State.withPlan_counters (s : State) (x : Plan) : (s.withPlan x).counters = s.counters := rfl
@[simp] theorem State.withPlan_run (s : State) (x : Plan) : (s.withPlan x).run = s.run := rfl
@[simp] theorem State.withPlan_link (s : State) (x : Plan) : (s.withPlan x).link = s.link := rfl
@[simp] theorem State.withPlan_pending (s : State) (x : Plan) : (s.withPlan x).pending = s.pending := rfl

@[simp] theorem State.withSites_time (s : State) (x : SiteTable) : (s.withSites x).time = s.time := rfl
@[simp] theorem State.withSites_tickTaken (s : State) (x : SiteTable) : (s.withSites x).tickTaken = s.tickTaken := rfl
@[simp] theorem State.withSites_plan (s : State) (x : SiteTable) : (s.withSites x).plan = s.plan := rfl
@[simp] theorem State.withSites_sites (s : State) (x : SiteTable) : (s.withSites x).sites = x := rfl
@[simp] theorem State.withSites_disp (s : State) (x : SiteTable) : (s.withSites x).disp = s.disp := rfl
@[simp] theorem State.withSites_relays (s : State) (x : SiteTable) : (s.withSites x).relays = s.relays := rfl
@[simp] theorem State.withSites_chans (s : State) (x : SiteTable) : (s.withSites x).chans = s.chans := rfl
@[simp] theorem State.withSites_results (s : State) (x : SiteTable) : (s.withSites x).results = s.results := rfl
@[simp] theorem State.withSites_counters (s : State) (x : SiteTable) : (s.withSites x).counters = s.counters := rfl
@[simp] theorem State.withSites_run (s : State) (x : SiteTable) : (s.withSites x).run = s.run := rfl
@[simp] theorem State.withSites_link (s : State) (x : SiteTable) : (s.withSites x).link = s.link := rfl
@[simp] theorem State.withSites_pending (s : State) (x : SiteTable) : (s.withSites x).pending = s.pending := rfl

@[simp] theorem State.withDisp_time (s : State) (x : Dispatcher) : (s.withDisp x).time = s.time := rfl
@[simp] theorem State.withDisp_tickTaken (s : State) (x : Dispatcher) : (s.withDisp x).tickTaken = s.tickTaken := rfl
@[simp] theorem State.withDisp_plan (s : State) (x : Dispatcher) : (s.withDisp x).plan = s.plan := rfl
@[simp] theorem State.withDisp_sites (s : State) (x : Dispatcher) : (s.withDisp x).sites = s.sites := rfl
@[simp] theorem State.withDisp_disp (s : State) (x : Dispatcher) : (s.withDisp x).disp = x := rfl
@[simp] theorem State.withDisp_relays (s : State) (x : Dispatcher) : (s.withDisp x).relays = s.relays := rfl
@[simp] theorem State.withDisp_chans (s : State) (x : Dispatcher) : (s.withDisp x).chans = s.chans := rfl
@[simp] theorem State.withDisp_results (s : State) (x : Dispatcher) : (s.withDisp x).results = s.results := rfl
@[simp] theorem State.withDisp_counters (s : State) (x : Dispatcher) : (s.withDisp x).counters = s.counters := rfl
@[simp] theorem State.withDisp_run (s : State) (x : Dispatcher) : (s.withDisp x).run = s.run := rfl
@[simp] theorem State.withDisp_link (s : State) (x : Dispatcher) : (s.withDisp x).link = s.link := rfl
@[simp] theorem State.withDisp_pending (s : State) (x : Dispatcher) : (s.withDisp x).pending = s.pending := rfl

@[simp] theorem State.withRelays_time (s : State) (x : RelayMap) : (s.withRelays x).time = s.time := rfl
@[simp] theorem State.withRelays_tickTaken (s : State) (x : RelayMap) : (s.withRelays x).tickTaken = s.tickTaken := rfl
@[simp] theorem State.withRelays_plan (s : State) (x : RelayMap) : (s.withRelays x).plan = s.plan := rfl
@[simp] theorem State.withRelays_sites (s : State) (x : RelayMap) : (s.withRelays x).sites = s.sites := rfl
@[simp] theorem State.withRelays_disp (s : State) (x : RelayMap) : (s.withRelays x).disp = s.disp := rfl
@[simp] theorem State.withRelays_relays (s : State) (x : RelayMap) : (s.withRelays x).relays = x := rfl
@[simp] theorem State.withRelays_chans (s : State) (x : RelayMap) : (s.withRelays x).chans = s.chans := rfl
@[simp] theorem State.withRelays_results (s : State) (x : RelayMap) : (s.withRelays x).results = s.results := rfl
@[simp] theorem State.withRelays_counters (s : State) (x : RelayMap) : (s.withRelays x).counters = s.counters := rfl
@[simp] theorem State.withRelays_run (s : State) (x : RelayMap) : (s.withRelays x).run = s.run := rfl
@[simp] theorem State.withRelays_link (s : State) (x : RelayMap) : (s.withRelays x).link = s.link := rfl
@[simp] theorem State.withRelays_pending (s : State) (x : RelayMap) : (s.withRelays x).pending = s.pending := rfl

@[simp] theorem State.withResults_time (s : State) (x : ResultQueue) : (s.withResults x).time = s.time := rfl
@[simp] theorem State.withResults_tickTaken (s : State) (x : ResultQueue) : (s.withResults x).tickTaken = s.tickTaken := rfl
@[simp] theorem State.withResults_plan (s : State) (x : ResultQueue) : (s.withResults x).plan = s.plan := rfl
@[simp] theorem State.withResults_sites (s : State) (x : ResultQueue) : (s.withResults x).sites = s.sites := rfl
@[simp] theorem State.withResults_disp (s : State) (x : ResultQueue) : (s.withResults x).disp = s.disp := rfl
@[simp] theorem State.withResults_relays (s : State) (x : ResultQueue) : (s.withResults x).relays = s.relays := rfl
@[simp] theorem State.withResults_chans (s : State) (x : ResultQueue) : (s.withResults x).chans = s.chans := rfl
@[simp] theorem State.withResults_results (s : State) (x : ResultQueue) : (s.withResults x).results = x := rfl
@[simp] theorem State.withResults_counters (s : State) (x : ResultQueue) : (s.withResults x).counters = s.counters := rfl
@[simp] theorem State.withResults_run (s : State) (x : ResultQueue) : (s.withResults x).run = s.run := rfl
@[simp] theorem State.withResults_link (s : State) (x : ResultQueue) : (s.withResults x).link = s.link := rfl
@[simp] theorem State.withResults_pending (s : State) (x : ResultQueue) : (s.withResults x).pending = s.pending := rfl

@[simp] theorem State.withCounters_time (s : State) (x : CounterBlock) : (s.withCounters x).time = s.time := rfl
@[simp] theorem State.withCounters_tickTaken (s : State) (x : CounterBlock) : (s.withCounters x).tickTaken = s.tickTaken := rfl
@[simp] theorem State.withCounters_plan (s : State) (x : CounterBlock) : (s.withCounters x).plan = s.plan := rfl
@[simp] theorem State.withCounters_sites (s : State) (x : CounterBlock) : (s.withCounters x).sites = s.sites := rfl
@[simp] theorem State.withCounters_disp (s : State) (x : CounterBlock) : (s.withCounters x).disp = s.disp := rfl
@[simp] theorem State.withCounters_relays (s : State) (x : CounterBlock) : (s.withCounters x).relays = s.relays := rfl
@[simp] theorem State.withCounters_chans (s : State) (x : CounterBlock) : (s.withCounters x).chans = s.chans := rfl
@[simp] theorem State.withCounters_results (s : State) (x : CounterBlock) : (s.withCounters x).results = s.results := rfl
@[simp] theorem State.withCounters_counters (s : State) (x : CounterBlock) : (s.withCounters x).counters = x := rfl
@[simp] theorem State.withCounters_run (s : State) (x : CounterBlock) : (s.withCounters x).run = s.run := rfl
@[simp] theorem State.withCounters_link (s : State) (x : CounterBlock) : (s.withCounters x).link = s.link := rfl
@[simp] theorem State.withCounters_pending (s : State) (x : CounterBlock) : (s.withCounters x).pending = s.pending := rfl

@[simp] theorem State.withRun_time (s : State) (x : RunControl) : (s.withRun x).time = s.time := rfl
@[simp] theorem State.withRun_tickTaken (s : State) (x : RunControl) : (s.withRun x).tickTaken = s.tickTaken := rfl
@[simp] theorem State.withRun_plan (s : State) (x : RunControl) : (s.withRun x).plan = s.plan := rfl
@[simp] theorem State.withRun_sites (s : State) (x : RunControl) : (s.withRun x).sites = s.sites := rfl
@[simp] theorem State.withRun_disp (s : State) (x : RunControl) : (s.withRun x).disp = s.disp := rfl
@[simp] theorem State.withRun_relays (s : State) (x : RunControl) : (s.withRun x).relays = s.relays := rfl
@[simp] theorem State.withRun_chans (s : State) (x : RunControl) : (s.withRun x).chans = s.chans := rfl
@[simp] theorem State.withRun_results (s : State) (x : RunControl) : (s.withRun x).results = s.results := rfl
@[simp] theorem State.withRun_counters (s : State) (x : RunControl) : (s.withRun x).counters = s.counters := rfl
@[simp] theorem State.withRun_run (s : State) (x : RunControl) : (s.withRun x).run = x := rfl
@[simp] theorem State.withRun_link (s : State) (x : RunControl) : (s.withRun x).link = s.link := rfl
@[simp] theorem State.withRun_pending (s : State) (x : RunControl) : (s.withRun x).pending = s.pending := rfl

@[simp] theorem State.withLink_time (s : State) (x : Link) : (s.withLink x).time = s.time := rfl
@[simp] theorem State.withLink_tickTaken (s : State) (x : Link) : (s.withLink x).tickTaken = s.tickTaken := rfl
@[simp] theorem State.withLink_plan (s : State) (x : Link) : (s.withLink x).plan = s.plan := rfl
@[simp] theorem State.withLink_sites (s : State) (x : Link) : (s.withLink x).sites = s.sites := rfl
@[simp] theorem State.withLink_disp (s : State) (x : Link) : (s.withLink x).disp = s.disp := rfl
@[simp] theorem State.withLink_relays (s : State) (x : Link) : (s.withLink x).relays = s.relays := rfl
@[simp] theorem State.withLink_chans (s : State) (x : Link) : (s.withLink x).chans = s.chans := rfl
@[simp] theorem State.withLink_results (s : State) (x : Link) : (s.withLink x).results = s.results := rfl
@[simp] theorem State.withLink_counters (s : State) (x : Link) : (s.withLink x).counters = s.counters := rfl
@[simp] theorem State.withLink_run (s : State) (x : Link) : (s.withLink x).run = s.run := rfl
@[simp] theorem State.withLink_link (s : State) (x : Link) : (s.withLink x).link = x := rfl
@[simp] theorem State.withLink_pending (s : State) (x : Link) : (s.withLink x).pending = s.pending := rfl

@[simp] theorem State.withPending_time (s : State) (x : List Instr) : (s.withPending x).time = s.time := rfl
@[simp] theorem State.withPending_tickTaken (s : State) (x : List Instr) : (s.withPending x).tickTaken = s.tickTaken := rfl
@[simp] theorem State.withPending_plan (s : State) (x : List Instr) : (s.withPending x).plan = s.plan := rfl
@[simp] theorem State.withPending_sites (s : State) (x : List Instr) : (s.withPending x).sites = s.sites := rfl
@[simp] theorem State.withPending_disp (s : State) (x : List Instr) : (s.withPending x).disp = s.disp := rfl
@[simp] theorem State.withPending_relays (s : State) (x : List Instr) : (s.withPending x).relays = s.relays := rfl
@[simp] theorem State.withPending_chans (s : State) (x : List Instr) : (s.withPending x).chans = s.chans := rfl
@[simp] theorem State.withPending_results (s : State) (x : List Instr) : (s.withPending x).results = s.results := rfl
@[simp] theorem State.withPending_counters (s : State) (x : List Instr) : (s.withPending x).counters = s.counters := rfl
@[simp] theorem State.withPending_run (s : State) (x : List Instr) : (s.withPending x).run = s.run := rfl
@[simp] theorem State.withPending_link (s : State) (x : List Instr) : (s.withPending x).link = s.link := rfl
@[simp] theorem State.withPending_pending (s : State) (x : List Instr) : (s.withPending x).pending = x := rfl

@[simp] theorem State.withChan_time (s : State) (c : Chan) (x : Channel) : (s.withChan c x).time = s.time := rfl
@[simp] theorem State.withChan_tickTaken (s : State) (c : Chan) (x : Channel) : (s.withChan c x).tickTaken = s.tickTaken := rfl
@[simp] theorem State.withChan_plan (s : State) (c : Chan) (x : Channel) : (s.withChan c x).plan = s.plan := rfl
@[simp] theorem State.withChan_sites (s : State) (c : Chan) (x : Channel) : (s.withChan c x).sites = s.sites := rfl
@[simp] theorem State.withChan_disp (s : State) (c : Chan) (x : Channel) : (s.withChan c x).disp = s.disp := rfl
@[simp] theorem State.withChan_relays (s : State) (c : Chan) (x : Channel) : (s.withChan c x).relays = s.relays := rfl
@[simp] theorem State.withChan_chans (s : State) (c : Chan) (x : Channel) : (s.withChan c x).chans = s.chans.set c x := rfl
@[simp] theorem State.withChan_results (s : State) (c : Chan) (x : Channel) : (s.withChan c x).results = s.results := rfl
@[simp] theorem State.withChan_counters (s : State) (c : Chan) (x : Channel) : (s.withChan c x).counters = s.counters := rfl
@[simp] theorem State.withChan_run (s : State) (c : Chan) (x : Channel) : (s.withChan c x).run = s.run := rfl
@[simp] theorem State.withChan_link (s : State) (c : Chan) (x : Channel) : (s.withChan c x).link = s.link := rfl
@[simp] theorem State.withChan_pending (s : State) (c : Chan) (x : Channel) : (s.withChan c x).pending = s.pending := rfl

@[simp] theorem State.withWindow_time (s : State) (x : List WindowEntry) : (s.withWindow x).time = s.time := rfl
@[simp] theorem State.withWindow_tickTaken (s : State) (x : List WindowEntry) : (s.withWindow x).tickTaken = s.tickTaken := rfl
@[simp] theorem State.withWindow_plan (s : State) (x : List WindowEntry) : (s.withWindow x).plan = s.plan := rfl
@[simp] theorem State.withWindow_sites (s : State) (x : List WindowEntry) : (s.withWindow x).sites = s.sites := rfl
@[simp] theorem State.withWindow_disp (s : State) (x : List WindowEntry) : (s.withWindow x).disp = { s.disp with window := x } := rfl
@[simp] theorem State.withWindow_relays (s : State) (x : List WindowEntry) : (s.withWindow x).relays = s.relays := rfl
@[simp] theorem State.withWindow_chans (s : State) (x : List WindowEntry) : (s.withWindow x).chans = s.chans := rfl
@[simp] theorem State.withWindow_results (s : State) (x : List WindowEntry) : (s.withWindow x).results = s.results := rfl
@[simp] theorem State.withWindow_counters (s : State) (x : List WindowEntry) : (s.withWindow x).counters = s.counters := rfl
@[simp] theorem State.withWindow_run (s : State) (x : List WindowEntry) : (s.withWindow x).run = s.run := rfl
@[simp] theorem State.withWindow_link (s : State) (x : List WindowEntry) : (s.withWindow x).link = s.link := rfl
@[simp] theorem State.withWindow_pending (s : State) (x : List WindowEntry) : (s.withWindow x).pending = s.pending := rfl

@[simp] theorem State.withNodes_time (s : State) (x : NodeTable) : (s.withNodes x).time = s.time := rfl
@[simp] theorem State.withNodes_tickTaken (s : State) (x : NodeTable) : (s.withNodes x).tickTaken = s.tickTaken := rfl
@[simp] theorem State.withNodes_plan (s : State) (x : NodeTable) : (s.withNodes x).plan = s.plan := rfl
@[simp] theorem State.withNodes_sites (s : State) (x : NodeTable) : (s.withNodes x).sites = s.sites := rfl
@[simp] theorem State.withNodes_disp (s : State) (x : NodeTable) : (s.withNodes x).disp = s.disp := rfl
@[simp] theorem State.withNodes_relays (s : State) (x : NodeTable) : (s.withNodes x).relays = { s.relays with nodes := x } := rfl
@[simp] theorem State.withNodes_chans (s : State) (x : NodeTable) : (s.withNodes x).chans = s.chans := rfl
@[simp] theorem State.withNodes_results (s : State) (x : NodeTable) : (s.withNodes x).results = s.results := rfl
@[simp] theorem State.withNodes_counters (s : State) (x : NodeTable) : (s.withNodes x).counters = s.counters := rfl
@[simp] theorem State.withNodes_run (s : State) (x : NodeTable) : (s.withNodes x).run = s.run := rfl
@[simp] theorem State.withNodes_link (s : State) (x : NodeTable) : (s.withNodes x).link = s.link := rfl
@[simp] theorem State.withNodes_pending (s : State) (x : NodeTable) : (s.withNodes x).pending = s.pending := rfl

@[simp] theorem State.noteExam_time (s : State) : s.noteExam.time = s.time := rfl
@[simp] theorem State.noteExam_tickTaken (s : State) : s.noteExam.tickTaken = s.tickTaken := rfl
@[simp] theorem State.noteExam_plan (s : State) : s.noteExam.plan = s.plan := rfl
@[simp] theorem State.noteExam_sites (s : State) : s.noteExam.sites = s.sites := rfl
@[simp] theorem State.noteExam_disp (s : State) : s.noteExam.disp = { s.disp with examDue := true } := rfl
@[simp] theorem State.noteExam_relays (s : State) : s.noteExam.relays = s.relays := rfl
@[simp] theorem State.noteExam_chans (s : State) : s.noteExam.chans = s.chans := rfl
@[simp] theorem State.noteExam_results (s : State) : s.noteExam.results = s.results := rfl
@[simp] theorem State.noteExam_counters (s : State) : s.noteExam.counters = s.counters := rfl
@[simp] theorem State.noteExam_run (s : State) : s.noteExam.run = s.run := rfl
@[simp] theorem State.noteExam_link (s : State) : s.noteExam.link = s.link := rfl
@[simp] theorem State.noteExam_pending (s : State) : s.noteExam.pending = s.pending := rfl

@[simp] theorem State.withRunning_time (s : State) (c : Chan) (r : Option Running) : (s.withRunning c r).time = s.time := rfl
@[simp] theorem State.withRunning_tickTaken (s : State) (c : Chan) (r : Option Running) : (s.withRunning c r).tickTaken = s.tickTaken := rfl
@[simp] theorem State.withRunning_plan (s : State) (c : Chan) (r : Option Running) : (s.withRunning c r).plan = s.plan := rfl
@[simp] theorem State.withRunning_sites (s : State) (c : Chan) (r : Option Running) : (s.withRunning c r).sites = s.sites := rfl
@[simp] theorem State.withRunning_disp (s : State) (c : Chan) (r : Option Running) : (s.withRunning c r).disp = s.disp := rfl
@[simp] theorem State.withRunning_relays (s : State) (c : Chan) (r : Option Running) : (s.withRunning c r).relays = s.relays := rfl
@[simp] theorem State.withRunning_chans (s : State) (c : Chan) (r : Option Running) : (s.withRunning c r).chans = s.chans.set c { s.chan c with running := r } := rfl
@[simp] theorem State.withRunning_results (s : State) (c : Chan) (r : Option Running) : (s.withRunning c r).results = s.results := rfl
@[simp] theorem State.withRunning_counters (s : State) (c : Chan) (r : Option Running) : (s.withRunning c r).counters = s.counters := rfl
@[simp] theorem State.withRunning_run (s : State) (c : Chan) (r : Option Running) : (s.withRunning c r).run = s.run := rfl
@[simp] theorem State.withRunning_link (s : State) (c : Chan) (r : Option Running) : (s.withRunning c r).link = s.link := rfl
@[simp] theorem State.withRunning_pending (s : State) (c : Chan) (r : Option Running) : (s.withRunning c r).pending = s.pending := rfl

@[simp] theorem State.withChan_chan (s : State) (c d : Chan) (x : Channel) :
    (s.withChan c x).chan d = if d = c then x else s.chan d := by
  simp [State.chan]

@[simp] theorem State.withSense_sense (s : State) (l m : SenseLine) (x : Sense) :
    (s.withSense l x).sense m = if m = l then x else s.sense m := by
  cases l <;> cases m <;> rfl

end Machine

end Sys2Proof
end

