-- ==== Sys2Proof/Laws/Frames.lean ====
section
/-! SUPPORT. What the shared operations of the notices, the plan banks, the sites and the counters leave unchanged, one
lemma for each field. -/

namespace Sys2Proof.Machine

/-- A raise changes the pending set and the due list alone (R171). -/
theorem Link.raise_eq (l : Link) (k : Notice) :
    l.raise k = { l with pendingSet := (l.raise k).pendingSet, due := (l.raise k).due } := by
  unfold Link.raise; split <;> rfl

/-- A fold of operations that keep a measure keeps it. -/
theorem foldl_keep {σ α β : Type} (g : σ → α → σ) (m : σ → β) (hg : ∀ s x, m (g s x) = m s) (l : List α) :
    ∀ s, m (l.foldl g s) = m s := by
  induction l with
  | nil => intro s; rfl
  | cons x l ih => intro s; exact (ih _).trans (hg s x)

@[simp] theorem Link.raise_receiver (l : Link) (k : Notice) : (l.raise k).receiver = l.receiver := by
  unfold Link.raise; split <;> rfl
@[simp] theorem Link.raise_slot (l : Link) (k : Notice) : (l.raise k).slot = l.slot := by
  unfold Link.raise; split <;> rfl
@[simp] theorem Link.raise_fault (l : Link) (k : Notice) : (l.raise k).fault = l.fault := by
  unfold Link.raise; split <;> rfl
@[simp] theorem Link.raise_errorCount (l : Link) (k : Notice) : (l.raise k).errorCount = l.errorCount := by
  unfold Link.raise; split <;> rfl
@[simp] theorem Link.raise_sending (l : Link) (k : Notice) : (l.raise k).sending = l.sending := by
  unfold Link.raise; split <;> rfl
@[simp] theorem Link.raise_waiting (l : Link) (k : Notice) : (l.raise k).waiting = l.waiting := by
  unfold Link.raise; split <;> rfl
@[simp] theorem Link.raise_enableMask (l : Link) (k : Notice) : (l.raise k).enableMask = l.enableMask := by
  unfold Link.raise; split <;> rfl
@[simp] theorem Link.raise_watermark (l : Link) (k : Notice) : (l.raise k).watermark = l.watermark := by
  unfold Link.raise; split <;> rfl

@[simp] theorem State.raise_time (s : State) (k : Notice) : (s.raise k).time = s.time := by
  rfl
@[simp] theorem State.raise_tickTaken (s : State) (k : Notice) : (s.raise k).tickTaken = s.tickTaken := by
  rfl
@[simp] theorem State.raise_plan (s : State) (k : Notice) : (s.raise k).plan = s.plan := by
  rfl
@[simp] theorem State.raise_sites (s : State) (k : Notice) : (s.raise k).sites = s.sites := by
  rfl
@[simp] theorem State.raise_disp (s : State) (k : Notice) : (s.raise k).disp = s.disp := by
  rfl
@[simp] theorem State.raise_relays (s : State) (k : Notice) : (s.raise k).relays = s.relays := by
  rfl
@[simp] theorem State.raise_chans (s : State) (k : Notice) : (s.raise k).chans = s.chans := by
  rfl
@[simp] theorem State.raise_results (s : State) (k : Notice) : (s.raise k).results = s.results := by
  rfl
@[simp] theorem State.raise_counters (s : State) (k : Notice) : (s.raise k).counters = s.counters := by
  rfl
@[simp] theorem State.raise_run (s : State) (k : Notice) : (s.raise k).run = s.run := by
  rfl
@[simp] theorem State.raise_pending (s : State) (k : Notice) : (s.raise k).pending = s.pending := by
  rfl

@[simp] theorem State.raise_link_receiver (s : State) (k : Notice) : (s.raise k).link.receiver = s.link.receiver := by
  simp [State.raise]
@[simp] theorem State.raise_link_slot (s : State) (k : Notice) : (s.raise k).link.slot = s.link.slot := by
  simp [State.raise]
@[simp] theorem State.raise_link_fault (s : State) (k : Notice) : (s.raise k).link.fault = s.link.fault := by
  simp [State.raise]
@[simp] theorem State.raise_link_errorCount (s : State) (k : Notice) : (s.raise k).link.errorCount = s.link.errorCount := by
  simp [State.raise]
@[simp] theorem State.raise_link_sending (s : State) (k : Notice) : (s.raise k).link.sending = s.link.sending := by
  simp [State.raise]
@[simp] theorem State.raise_link_waiting (s : State) (k : Notice) : (s.raise k).link.waiting = s.link.waiting := by
  simp [State.raise]
@[simp] theorem State.raise_link_enableMask (s : State) (k : Notice) : (s.raise k).link.enableMask = s.link.enableMask := by
  simp [State.raise]
@[simp] theorem State.raise_link_watermark (s : State) (k : Notice) : (s.raise k).link.watermark = s.link.watermark := by
  simp [State.raise]

@[simp] theorem State.testResultsReady_time (s : State) : (s.testResultsReady).time = s.time := by
  unfold State.testResultsReady; split <;> simp
@[simp] theorem State.testResultsReady_tickTaken (s : State) : (s.testResultsReady).tickTaken = s.tickTaken := by
  unfold State.testResultsReady; split <;> simp
@[simp] theorem State.testResultsReady_plan (s : State) : (s.testResultsReady).plan = s.plan := by
  unfold State.testResultsReady; split <;> simp
@[simp] theorem State.testResultsReady_sites (s : State) : (s.testResultsReady).sites = s.sites := by
  unfold State.testResultsReady; split <;> simp
@[simp] theorem State.testResultsReady_disp (s : State) : (s.testResultsReady).disp = s.disp := by
  unfold State.testResultsReady; split <;> simp
@[simp] theorem State.testResultsReady_relays (s : State) : (s.testResultsReady).relays = s.relays := by
  unfold State.testResultsReady; split <;> simp
@[simp] theorem State.testResultsReady_chans (s : State) : (s.testResultsReady).chans = s.chans := by
  unfold State.testResultsReady; split <;> simp
@[simp] theorem State.testResultsReady_results (s : State) : (s.testResultsReady).results = s.results := by
  unfold State.testResultsReady; split <;> simp
@[simp] theorem State.testResultsReady_counters (s : State) : (s.testResultsReady).counters = s.counters := by
  unfold State.testResultsReady; split <;> simp
@[simp] theorem State.testResultsReady_run (s : State) : (s.testResultsReady).run = s.run := by
  unfold State.testResultsReady; split <;> simp
@[simp] theorem State.testResultsReady_pending (s : State) : (s.testResultsReady).pending = s.pending := by
  unfold State.testResultsReady; split <;> simp
@[simp] theorem State.testResultsReady_link_receiver (s : State) : (s.testResultsReady).link.receiver = s.link.receiver := by
  unfold State.testResultsReady; split <;> simp
@[simp] theorem State.testResultsReady_link_slot (s : State) : (s.testResultsReady).link.slot = s.link.slot := by
  unfold State.testResultsReady; split <;> simp
@[simp] theorem State.testResultsReady_link_fault (s : State) : (s.testResultsReady).link.fault = s.link.fault := by
  unfold State.testResultsReady; split <;> simp
@[simp] theorem State.testResultsReady_link_errorCount (s : State) : (s.testResultsReady).link.errorCount = s.link.errorCount := by
  unfold State.testResultsReady; split <;> simp
@[simp] theorem State.testResultsReady_link_sending (s : State) : (s.testResultsReady).link.sending = s.link.sending := by
  unfold State.testResultsReady; split <;> simp
@[simp] theorem State.testResultsReady_link_waiting (s : State) : (s.testResultsReady).link.waiting = s.link.waiting := by
  unfold State.testResultsReady; split <;> simp
@[simp] theorem State.testResultsReady_link_enableMask (s : State) : (s.testResultsReady).link.enableMask = s.link.enableMask := by
  unfold State.testResultsReady; split <;> simp
@[simp] theorem State.testResultsReady_link_watermark (s : State) : (s.testResultsReady).link.watermark = s.link.watermark := by
  unfold State.testResultsReady; split <;> simp

@[simp] theorem State.emptyBank_time (s : State) (w : BankId) : (s.emptyBank w).time = s.time := by
  rfl
@[simp] theorem State.emptyBank_tickTaken (s : State) (w : BankId) : (s.emptyBank w).tickTaken = s.tickTaken := by
  rfl
@[simp] theorem State.emptyBank_sites (s : State) (w : BankId) : (s.emptyBank w).sites = s.sites := by
  rfl
@[simp] theorem State.emptyBank_disp (s : State) (w : BankId) : (s.emptyBank w).disp = s.disp := by
  rfl
@[simp] theorem State.emptyBank_relays (s : State) (w : BankId) : (s.emptyBank w).relays = s.relays := by
  rfl
@[simp] theorem State.emptyBank_chans (s : State) (w : BankId) : (s.emptyBank w).chans = s.chans := by
  rfl
@[simp] theorem State.emptyBank_results (s : State) (w : BankId) : (s.emptyBank w).results = s.results := by
  rfl
@[simp] theorem State.emptyBank_counters (s : State) (w : BankId) : (s.emptyBank w).counters = s.counters := by
  rfl
@[simp] theorem State.emptyBank_run (s : State) (w : BankId) : (s.emptyBank w).run = s.run := by
  rfl
@[simp] theorem State.emptyBank_link (s : State) (w : BankId) : (s.emptyBank w).link = s.link := by
  rfl
@[simp] theorem State.emptyBank_pending (s : State) (w : BankId) : (s.emptyBank w).pending = s.pending := by
  rfl

@[simp] theorem State.drainIfDone_time (s : State) (w : BankId) : (s.drainIfDone w).time = s.time := by
  unfold State.drainIfDone; split <;> simp
@[simp] theorem State.drainIfDone_tickTaken (s : State) (w : BankId) : (s.drainIfDone w).tickTaken = s.tickTaken := by
  unfold State.drainIfDone; split <;> simp
@[simp] theorem State.drainIfDone_sites (s : State) (w : BankId) : (s.drainIfDone w).sites = s.sites := by
  unfold State.drainIfDone; split <;> simp
@[simp] theorem State.drainIfDone_disp (s : State) (w : BankId) : (s.drainIfDone w).disp = s.disp := by
  unfold State.drainIfDone; split <;> simp
@[simp] theorem State.drainIfDone_relays (s : State) (w : BankId) : (s.drainIfDone w).relays = s.relays := by
  unfold State.drainIfDone; split <;> simp
@[simp] theorem State.drainIfDone_chans (s : State) (w : BankId) : (s.drainIfDone w).chans = s.chans := by
  unfold State.drainIfDone; split <;> simp
@[simp] theorem State.drainIfDone_results (s : State) (w : BankId) : (s.drainIfDone w).results = s.results := by
  unfold State.drainIfDone; split <;> simp
@[simp] theorem State.drainIfDone_counters (s : State) (w : BankId) : (s.drainIfDone w).counters = s.counters := by
  unfold State.drainIfDone; split <;> simp
@[simp] theorem State.drainIfDone_run (s : State) (w : BankId) : (s.drainIfDone w).run = s.run := by
  unfold State.drainIfDone; split <;> simp
@[simp] theorem State.drainIfDone_pending (s : State) (w : BankId) : (s.drainIfDone w).pending = s.pending := by
  unfold State.drainIfDone; split <;> simp
@[simp] theorem State.drainIfDone_link_receiver (s : State) (w : BankId) : (s.drainIfDone w).link.receiver = s.link.receiver := by
  unfold State.drainIfDone; split <;> simp
@[simp] theorem State.drainIfDone_link_slot (s : State) (w : BankId) : (s.drainIfDone w).link.slot = s.link.slot := by
  unfold State.drainIfDone; split <;> simp
@[simp] theorem State.drainIfDone_link_fault (s : State) (w : BankId) : (s.drainIfDone w).link.fault = s.link.fault := by
  unfold State.drainIfDone; split <;> simp
@[simp] theorem State.drainIfDone_link_errorCount (s : State) (w : BankId) : (s.drainIfDone w).link.errorCount = s.link.errorCount := by
  unfold State.drainIfDone; split <;> simp
@[simp] theorem State.drainIfDone_link_sending (s : State) (w : BankId) : (s.drainIfDone w).link.sending = s.link.sending := by
  unfold State.drainIfDone; split <;> simp
@[simp] theorem State.drainIfDone_link_waiting (s : State) (w : BankId) : (s.drainIfDone w).link.waiting = s.link.waiting := by
  unfold State.drainIfDone; split <;> simp
@[simp] theorem State.drainIfDone_link_enableMask (s : State) (w : BankId) : (s.drainIfDone w).link.enableMask = s.link.enableMask := by
  unfold State.drainIfDone; split <;> simp
@[simp] theorem State.drainIfDone_link_watermark (s : State) (w : BankId) : (s.drainIfDone w).link.watermark = s.link.watermark := by
  unfold State.drainIfDone; split <;> simp

@[simp] theorem State.lowerLive_time (s : State) (w : BankId) (k : Nat) : (s.lowerLive w k).time = s.time := by
  unfold State.lowerLive; simp only; split <;> simp
@[simp] theorem State.lowerLive_tickTaken (s : State) (w : BankId) (k : Nat) : (s.lowerLive w k).tickTaken = s.tickTaken := by
  unfold State.lowerLive; simp only; split <;> simp
@[simp] theorem State.lowerLive_sites (s : State) (w : BankId) (k : Nat) : (s.lowerLive w k).sites = s.sites := by
  unfold State.lowerLive; simp only; split <;> simp
@[simp] theorem State.lowerLive_disp (s : State) (w : BankId) (k : Nat) : (s.lowerLive w k).disp = s.disp := by
  unfold State.lowerLive; simp only; split <;> simp
@[simp] theorem State.lowerLive_relays (s : State) (w : BankId) (k : Nat) : (s.lowerLive w k).relays = s.relays := by
  unfold State.lowerLive; simp only; split <;> simp
@[simp] theorem State.lowerLive_chans (s : State) (w : BankId) (k : Nat) : (s.lowerLive w k).chans = s.chans := by
  unfold State.lowerLive; simp only; split <;> simp
@[simp] theorem State.lowerLive_results (s : State) (w : BankId) (k : Nat) : (s.lowerLive w k).results = s.results := by
  unfold State.lowerLive; simp only; split <;> simp
@[simp] theorem State.lowerLive_counters (s : State) (w : BankId) (k : Nat) : (s.lowerLive w k).counters = s.counters := by
  unfold State.lowerLive; simp only; split <;> simp
@[simp] theorem State.lowerLive_run (s : State) (w : BankId) (k : Nat) : (s.lowerLive w k).run = s.run := by
  unfold State.lowerLive; simp only; split <;> simp
@[simp] theorem State.lowerLive_pending (s : State) (w : BankId) (k : Nat) : (s.lowerLive w k).pending = s.pending := by
  unfold State.lowerLive; simp only; split <;> simp
@[simp] theorem State.lowerLive_link_receiver (s : State) (w : BankId) (k : Nat) : (s.lowerLive w k).link.receiver = s.link.receiver := by
  unfold State.lowerLive; simp only; split <;> simp
@[simp] theorem State.lowerLive_link_slot (s : State) (w : BankId) (k : Nat) : (s.lowerLive w k).link.slot = s.link.slot := by
  unfold State.lowerLive; simp only; split <;> simp
@[simp] theorem State.lowerLive_link_fault (s : State) (w : BankId) (k : Nat) : (s.lowerLive w k).link.fault = s.link.fault := by
  unfold State.lowerLive; simp only; split <;> simp
@[simp] theorem State.lowerLive_link_errorCount (s : State) (w : BankId) (k : Nat) : (s.lowerLive w k).link.errorCount = s.link.errorCount := by
  unfold State.lowerLive; simp only; split <;> simp
@[simp] theorem State.lowerLive_link_sending (s : State) (w : BankId) (k : Nat) : (s.lowerLive w k).link.sending = s.link.sending := by
  unfold State.lowerLive; simp only; split <;> simp
@[simp] theorem State.lowerLive_link_waiting (s : State) (w : BankId) (k : Nat) : (s.lowerLive w k).link.waiting = s.link.waiting := by
  unfold State.lowerLive; simp only; split <;> simp
@[simp] theorem State.lowerLive_link_enableMask (s : State) (w : BankId) (k : Nat) : (s.lowerLive w k).link.enableMask = s.link.enableMask := by
  unfold State.lowerLive; simp only; split <;> simp
@[simp] theorem State.lowerLive_link_watermark (s : State) (w : BankId) (k : Nat) : (s.lowerLive w k).link.watermark = s.link.watermark := by
  unfold State.lowerLive; simp only; split <;> simp

@[simp] theorem State.addSkipped_time (s : State) (i : Fin 8) (k : Nat) : (s.addSkipped i k).time = s.time := by
  rfl
@[simp] theorem State.addSkipped_tickTaken (s : State) (i : Fin 8) (k : Nat) : (s.addSkipped i k).tickTaken = s.tickTaken := by
  rfl
@[simp] theorem State.addSkipped_plan (s : State) (i : Fin 8) (k : Nat) : (s.addSkipped i k).plan = s.plan := by
  rfl
@[simp] theorem State.addSkipped_disp (s : State) (i : Fin 8) (k : Nat) : (s.addSkipped i k).disp = s.disp := by
  rfl
@[simp] theorem State.addSkipped_relays (s : State) (i : Fin 8) (k : Nat) : (s.addSkipped i k).relays = s.relays := by
  rfl
@[simp] theorem State.addSkipped_chans (s : State) (i : Fin 8) (k : Nat) : (s.addSkipped i k).chans = s.chans := by
  rfl
@[simp] theorem State.addSkipped_results (s : State) (i : Fin 8) (k : Nat) : (s.addSkipped i k).results = s.results := by
  rfl
@[simp] theorem State.addSkipped_counters (s : State) (i : Fin 8) (k : Nat) : (s.addSkipped i k).counters = s.counters := by
  rfl
@[simp] theorem State.addSkipped_run (s : State) (i : Fin 8) (k : Nat) : (s.addSkipped i k).run = s.run := by
  rfl
@[simp] theorem State.addSkipped_link (s : State) (i : Fin 8) (k : Nat) : (s.addSkipped i k).link = s.link := by
  rfl
@[simp] theorem State.addSkipped_pending (s : State) (i : Fin 8) (k : Nat) : (s.addSkipped i k).pending = s.pending := by
  rfl

@[simp] theorem State.setSiteState_time (s : State) (i : Fin 8) (x : SiteState) : (s.setSiteState i x).time = s.time := by
  rfl
@[simp] theorem State.setSiteState_tickTaken (s : State) (i : Fin 8) (x : SiteState) : (s.setSiteState i x).tickTaken = s.tickTaken := by
  rfl
@[simp] theorem State.setSiteState_plan (s : State) (i : Fin 8) (x : SiteState) : (s.setSiteState i x).plan = s.plan := by
  rfl
@[simp] theorem State.setSiteState_disp (s : State) (i : Fin 8) (x : SiteState) : (s.setSiteState i x).disp = s.disp := by
  rfl
@[simp] theorem State.setSiteState_relays (s : State) (i : Fin 8) (x : SiteState) : (s.setSiteState i x).relays = s.relays := by
  rfl
@[simp] theorem State.setSiteState_chans (s : State) (i : Fin 8) (x : SiteState) : (s.setSiteState i x).chans = s.chans := by
  rfl
@[simp] theorem State.setSiteState_results (s : State) (i : Fin 8) (x : SiteState) : (s.setSiteState i x).results = s.results := by
  rfl
@[simp] theorem State.setSiteState_counters (s : State) (i : Fin 8) (x : SiteState) : (s.setSiteState i x).counters = s.counters := by
  rfl
@[simp] theorem State.setSiteState_run (s : State) (i : Fin 8) (x : SiteState) : (s.setSiteState i x).run = s.run := by
  rfl
@[simp] theorem State.setSiteState_link (s : State) (i : Fin 8) (x : SiteState) : (s.setSiteState i x).link = s.link := by
  rfl
@[simp] theorem State.setSiteState_pending (s : State) (i : Fin 8) (x : SiteState) : (s.setSiteState i x).pending = s.pending := by
  rfl

@[simp] theorem State.removeWaiting_time (s : State) (i : Fin 8) : (s.removeWaiting i).time = s.time := by
  unfold State.removeWaiting; split <;> simp
@[simp] theorem State.removeWaiting_tickTaken (s : State) (i : Fin 8) : (s.removeWaiting i).tickTaken = s.tickTaken := by
  unfold State.removeWaiting; split <;> simp
@[simp] theorem State.removeWaiting_relays (s : State) (i : Fin 8) : (s.removeWaiting i).relays = s.relays := by
  unfold State.removeWaiting; split <;> simp
@[simp] theorem State.removeWaiting_chans (s : State) (i : Fin 8) : (s.removeWaiting i).chans = s.chans := by
  unfold State.removeWaiting; split <;> simp
@[simp] theorem State.removeWaiting_results (s : State) (i : Fin 8) : (s.removeWaiting i).results = s.results := by
  unfold State.removeWaiting; split <;> simp
@[simp] theorem State.removeWaiting_counters (s : State) (i : Fin 8) : (s.removeWaiting i).counters = s.counters := by
  unfold State.removeWaiting; split <;> simp
@[simp] theorem State.removeWaiting_run (s : State) (i : Fin 8) : (s.removeWaiting i).run = s.run := by
  unfold State.removeWaiting; split <;> simp
@[simp] theorem State.removeWaiting_pending (s : State) (i : Fin 8) : (s.removeWaiting i).pending = s.pending := by
  unfold State.removeWaiting; split <;> simp
@[simp] theorem State.removeWaiting_link_receiver (s : State) (i : Fin 8) : (s.removeWaiting i).link.receiver = s.link.receiver := by
  unfold State.removeWaiting; split <;> simp
@[simp] theorem State.removeWaiting_link_slot (s : State) (i : Fin 8) : (s.removeWaiting i).link.slot = s.link.slot := by
  unfold State.removeWaiting; split <;> simp
@[simp] theorem State.removeWaiting_link_fault (s : State) (i : Fin 8) : (s.removeWaiting i).link.fault = s.link.fault := by
  unfold State.removeWaiting; split <;> simp
@[simp] theorem State.removeWaiting_link_errorCount (s : State) (i : Fin 8) : (s.removeWaiting i).link.errorCount = s.link.errorCount := by
  unfold State.removeWaiting; split <;> simp
@[simp] theorem State.removeWaiting_link_sending (s : State) (i : Fin 8) : (s.removeWaiting i).link.sending = s.link.sending := by
  unfold State.removeWaiting; split <;> simp
@[simp] theorem State.removeWaiting_link_waiting (s : State) (i : Fin 8) : (s.removeWaiting i).link.waiting = s.link.waiting := by
  unfold State.removeWaiting; split <;> simp
@[simp] theorem State.removeWaiting_link_enableMask (s : State) (i : Fin 8) : (s.removeWaiting i).link.enableMask = s.link.enableMask := by
  unfold State.removeWaiting; split <;> simp
@[simp] theorem State.removeWaiting_link_watermark (s : State) (i : Fin 8) : (s.removeWaiting i).link.watermark = s.link.watermark := by
  unfold State.removeWaiting; split <;> simp
@[simp] theorem State.removeWaiting_disp_fetch (s : State) (i : Fin 8) : (s.removeWaiting i).disp.fetch = s.disp.fetch := by
  unfold State.removeWaiting; split <;> simp
@[simp] theorem State.removeWaiting_disp_paused (s : State) (i : Fin 8) : (s.removeWaiting i).disp.paused = s.disp.paused := by
  unfold State.removeWaiting; split <;> simp
@[simp] theorem State.removeWaiting_disp_starved (s : State) (i : Fin 8) : (s.removeWaiting i).disp.starved = s.disp.starved := by
  unfold State.removeWaiting; split <;> simp

@[simp] theorem State.retire_time (s : State) (i : Fin 8) (w : RetireReason) : (s.retire i w).time = s.time := by
  unfold State.retire; split <;> simp
@[simp] theorem State.retire_tickTaken (s : State) (i : Fin 8) (w : RetireReason) : (s.retire i w).tickTaken = s.tickTaken := by
  unfold State.retire; split <;> simp
@[simp] theorem State.retire_relays (s : State) (i : Fin 8) (w : RetireReason) : (s.retire i w).relays = s.relays := by
  unfold State.retire; split <;> simp
@[simp] theorem State.retire_chans (s : State) (i : Fin 8) (w : RetireReason) : (s.retire i w).chans = s.chans := by
  unfold State.retire; split <;> simp
@[simp] theorem State.retire_results (s : State) (i : Fin 8) (w : RetireReason) : (s.retire i w).results = s.results := by
  unfold State.retire; split <;> simp
@[simp] theorem State.retire_counters (s : State) (i : Fin 8) (w : RetireReason) : (s.retire i w).counters = s.counters := by
  unfold State.retire; split <;> simp
@[simp] theorem State.retire_run (s : State) (i : Fin 8) (w : RetireReason) : (s.retire i w).run = s.run := by
  unfold State.retire; split <;> simp
@[simp] theorem State.retire_pending (s : State) (i : Fin 8) (w : RetireReason) : (s.retire i w).pending = s.pending := by
  unfold State.retire; split <;> simp
@[simp] theorem State.retire_link_receiver (s : State) (i : Fin 8) (w : RetireReason) : (s.retire i w).link.receiver = s.link.receiver := by
  unfold State.retire; split <;> simp
@[simp] theorem State.retire_link_slot (s : State) (i : Fin 8) (w : RetireReason) : (s.retire i w).link.slot = s.link.slot := by
  unfold State.retire; split <;> simp
@[simp] theorem State.retire_link_fault (s : State) (i : Fin 8) (w : RetireReason) : (s.retire i w).link.fault = s.link.fault := by
  unfold State.retire; split <;> simp
@[simp] theorem State.retire_link_errorCount (s : State) (i : Fin 8) (w : RetireReason) : (s.retire i w).link.errorCount = s.link.errorCount := by
  unfold State.retire; split <;> simp
@[simp] theorem State.retire_link_sending (s : State) (i : Fin 8) (w : RetireReason) : (s.retire i w).link.sending = s.link.sending := by
  unfold State.retire; split <;> simp
@[simp] theorem State.retire_link_waiting (s : State) (i : Fin 8) (w : RetireReason) : (s.retire i w).link.waiting = s.link.waiting := by
  unfold State.retire; split <;> simp
@[simp] theorem State.retire_link_enableMask (s : State) (i : Fin 8) (w : RetireReason) : (s.retire i w).link.enableMask = s.link.enableMask := by
  unfold State.retire; split <;> simp
@[simp] theorem State.retire_link_watermark (s : State) (i : Fin 8) (w : RetireReason) : (s.retire i w).link.watermark = s.link.watermark := by
  unfold State.retire; split <;> simp
@[simp] theorem State.retire_disp_fetch (s : State) (i : Fin 8) (w : RetireReason) : (s.retire i w).disp.fetch = s.disp.fetch := by
  unfold State.retire; split <;> simp
@[simp] theorem State.retire_disp_paused (s : State) (i : Fin 8) (w : RetireReason) : (s.retire i w).disp.paused = s.disp.paused := by
  unfold State.retire; split <;> simp
@[simp] theorem State.retire_disp_starved (s : State) (i : Fin 8) (w : RetireReason) : (s.retire i w).disp.starved = s.disp.starved := by
  unfold State.retire; split <;> simp

@[simp] theorem State.addSkipped_sites_count (s : State) (i : Fin 8) (k : Nat) :
    (s.addSkipped i k).sites.count = s.sites.count := rfl
@[simp] theorem State.setSiteState_sites_count (s : State) (i : Fin 8) (x : SiteState) :
    (s.setSiteState i x).sites.count = s.sites.count := rfl
@[simp] theorem State.removeWaiting_sites_count (s : State) (i : Fin 8) :
    (s.removeWaiting i).sites.count = s.sites.count := by
  unfold State.removeWaiting; split <;> simp
@[simp] theorem State.retire_sites_count (s : State) (i : Fin 8) (w : RetireReason) :
    (s.retire i w).sites.count = s.sites.count := by
  unfold State.retire; split <;> simp

@[simp] theorem State.retireAll_time (s : State) (l : List (Fin 8)) : (s.retireAll l).time = s.time :=
  foldl_keep _ State.time (by simp) _ s
@[simp] theorem State.retireAll_tickTaken (s : State) (l : List (Fin 8)) : (s.retireAll l).tickTaken = s.tickTaken :=
  foldl_keep _ State.tickTaken (by simp) _ s
@[simp] theorem State.retireAll_relays (s : State) (l : List (Fin 8)) : (s.retireAll l).relays = s.relays :=
  foldl_keep _ State.relays (by simp) _ s
@[simp] theorem State.retireAll_chans (s : State) (l : List (Fin 8)) : (s.retireAll l).chans = s.chans :=
  foldl_keep _ State.chans (by simp) _ s
@[simp] theorem State.retireAll_results (s : State) (l : List (Fin 8)) : (s.retireAll l).results = s.results :=
  foldl_keep _ State.results (by simp) _ s
@[simp] theorem State.retireAll_counters (s : State) (l : List (Fin 8)) : (s.retireAll l).counters = s.counters :=
  foldl_keep _ State.counters (by simp) _ s
@[simp] theorem State.retireAll_run (s : State) (l : List (Fin 8)) : (s.retireAll l).run = s.run :=
  foldl_keep _ State.run (by simp) _ s
@[simp] theorem State.retireAll_pending (s : State) (l : List (Fin 8)) : (s.retireAll l).pending = s.pending :=
  foldl_keep _ State.pending (by simp) _ s
@[simp] theorem State.retireAll_link_receiver (s : State) (l : List (Fin 8)) : (s.retireAll l).link.receiver = s.link.receiver :=
  foldl_keep _ (fun t : State => t.link.receiver) (by simp) _ s
@[simp] theorem State.retireAll_link_slot (s : State) (l : List (Fin 8)) : (s.retireAll l).link.slot = s.link.slot :=
  foldl_keep _ (fun t : State => t.link.slot) (by simp) _ s
@[simp] theorem State.retireAll_link_fault (s : State) (l : List (Fin 8)) : (s.retireAll l).link.fault = s.link.fault :=
  foldl_keep _ (fun t : State => t.link.fault) (by simp) _ s
@[simp] theorem State.retireAll_link_errorCount (s : State) (l : List (Fin 8)) : (s.retireAll l).link.errorCount = s.link.errorCount :=
  foldl_keep _ (fun t : State => t.link.errorCount) (by simp) _ s
@[simp] theorem State.retireAll_link_sending (s : State) (l : List (Fin 8)) : (s.retireAll l).link.sending = s.link.sending :=
  foldl_keep _ (fun t : State => t.link.sending) (by simp) _ s
@[simp] theorem State.retireAll_link_waiting (s : State) (l : List (Fin 8)) : (s.retireAll l).link.waiting = s.link.waiting :=
  foldl_keep _ (fun t : State => t.link.waiting) (by simp) _ s
@[simp] theorem State.retireAll_link_enableMask (s : State) (l : List (Fin 8)) : (s.retireAll l).link.enableMask = s.link.enableMask :=
  foldl_keep _ (fun t : State => t.link.enableMask) (by simp) _ s
@[simp] theorem State.retireAll_link_watermark (s : State) (l : List (Fin 8)) : (s.retireAll l).link.watermark = s.link.watermark :=
  foldl_keep _ (fun t : State => t.link.watermark) (by simp) _ s
@[simp] theorem State.retireAll_disp_fetch (s : State) (l : List (Fin 8)) : (s.retireAll l).disp.fetch = s.disp.fetch :=
  foldl_keep _ (fun t : State => t.disp.fetch) (by simp) _ s
@[simp] theorem State.retireAll_disp_paused (s : State) (l : List (Fin 8)) : (s.retireAll l).disp.paused = s.disp.paused :=
  foldl_keep _ (fun t : State => t.disp.paused) (by simp) _ s
@[simp] theorem State.retireAll_disp_starved (s : State) (l : List (Fin 8)) : (s.retireAll l).disp.starved = s.disp.starved :=
  foldl_keep _ (fun t : State => t.disp.starved) (by simp) _ s
@[simp] theorem State.retireAll_sites_count (s : State) (l : List (Fin 8)) : (s.retireAll l).sites.count = s.sites.count :=
  foldl_keep _ (fun t : State => t.sites.count) (by simp) _ s

@[simp] theorem State.wrapEffects_time (s : State) (k : Counter) : (s.wrapEffects k).time = s.time := by
  unfold State.wrapEffects; cases k.action <;> simp
@[simp] theorem State.wrapEffects_tickTaken (s : State) (k : Counter) : (s.wrapEffects k).tickTaken = s.tickTaken := by
  unfold State.wrapEffects; cases k.action <;> simp
@[simp] theorem State.wrapEffects_relays (s : State) (k : Counter) : (s.wrapEffects k).relays = s.relays := by
  unfold State.wrapEffects; cases k.action <;> simp
@[simp] theorem State.wrapEffects_chans (s : State) (k : Counter) : (s.wrapEffects k).chans = s.chans := by
  unfold State.wrapEffects; cases k.action <;> simp
@[simp] theorem State.wrapEffects_results (s : State) (k : Counter) : (s.wrapEffects k).results = s.results := by
  unfold State.wrapEffects; cases k.action <;> simp
@[simp] theorem State.wrapEffects_pending (s : State) (k : Counter) : (s.wrapEffects k).pending = s.pending := by
  unfold State.wrapEffects; cases k.action <;> simp
@[simp] theorem State.wrapEffects_link_receiver (s : State) (k : Counter) : (s.wrapEffects k).link.receiver = s.link.receiver := by
  unfold State.wrapEffects; cases k.action <;> simp
@[simp] theorem State.wrapEffects_link_slot (s : State) (k : Counter) : (s.wrapEffects k).link.slot = s.link.slot := by
  unfold State.wrapEffects; cases k.action <;> simp
@[simp] theorem State.wrapEffects_link_fault (s : State) (k : Counter) : (s.wrapEffects k).link.fault = s.link.fault := by
  unfold State.wrapEffects; cases k.action <;> simp
@[simp] theorem State.wrapEffects_link_errorCount (s : State) (k : Counter) : (s.wrapEffects k).link.errorCount = s.link.errorCount := by
  unfold State.wrapEffects; cases k.action <;> simp
@[simp] theorem State.wrapEffects_link_sending (s : State) (k : Counter) : (s.wrapEffects k).link.sending = s.link.sending := by
  unfold State.wrapEffects; cases k.action <;> simp
@[simp] theorem State.wrapEffects_link_waiting (s : State) (k : Counter) : (s.wrapEffects k).link.waiting = s.link.waiting := by
  unfold State.wrapEffects; cases k.action <;> simp
@[simp] theorem State.wrapEffects_link_enableMask (s : State) (k : Counter) : (s.wrapEffects k).link.enableMask = s.link.enableMask := by
  unfold State.wrapEffects; cases k.action <;> simp
@[simp] theorem State.wrapEffects_link_watermark (s : State) (k : Counter) : (s.wrapEffects k).link.watermark = s.link.watermark := by
  unfold State.wrapEffects; cases k.action <;> simp
@[simp] theorem State.wrapEffects_disp_fetch (s : State) (k : Counter) : (s.wrapEffects k).disp.fetch = s.disp.fetch := by
  unfold State.wrapEffects; cases k.action <;> simp
@[simp] theorem State.wrapEffects_disp_paused (s : State) (k : Counter) : (s.wrapEffects k).disp.paused = s.disp.paused := by
  unfold State.wrapEffects; cases k.action <;> simp
@[simp] theorem State.wrapEffects_disp_starved (s : State) (k : Counter) : (s.wrapEffects k).disp.starved = s.disp.starved := by
  unfold State.wrapEffects; cases k.action <;> simp
@[simp] theorem State.wrapEffects_sites_count (s : State) (k : Counter) : (s.wrapEffects k).sites.count = s.sites.count := by
  unfold State.wrapEffects; cases k.action <;> simp
@[simp] theorem State.wrapEffects_run_state (s : State) (k : Counter) : (s.wrapEffects k).run.state = s.run.state := by
  unfold State.wrapEffects; cases k.action <;> simp
@[simp] theorem State.wrapEffects_run_enabled (s : State) (k : Counter) : (s.wrapEffects k).run.enabled = s.run.enabled := by
  unfold State.wrapEffects; cases k.action <;> simp
@[simp] theorem State.wrapEffects_run_vac (s : State) (k : Counter) : (s.wrapEffects k).run.vac = s.run.vac := by
  unfold State.wrapEffects; cases k.action <;> simp
@[simp] theorem State.wrapEffects_run_lid (s : State) (k : Counter) : (s.wrapEffects k).run.lid = s.run.lid := by
  unfold State.wrapEffects; cases k.action <;> simp
@[simp] theorem State.wrapEffects_run_outputs (s : State) (k : Counter) : (s.wrapEffects k).run.outputs = s.run.outputs := by
  unfold State.wrapEffects; cases k.action <;> simp

@[simp] theorem State.countAll_time (s : State) (f : Counter → Counter × Bool) : (s.countAll f).time = s.time := by
  unfold State.countAll; exact (foldl_keep _ State.time (by simp) _ _).trans (by simp)
@[simp] theorem State.countAll_tickTaken (s : State) (f : Counter → Counter × Bool) : (s.countAll f).tickTaken = s.tickTaken := by
  unfold State.countAll; exact (foldl_keep _ State.tickTaken (by simp) _ _).trans (by simp)
@[simp] theorem State.countAll_relays (s : State) (f : Counter → Counter × Bool) : (s.countAll f).relays = s.relays := by
  unfold State.countAll; exact (foldl_keep _ State.relays (by simp) _ _).trans (by simp)
@[simp] theorem State.countAll_chans (s : State) (f : Counter → Counter × Bool) : (s.countAll f).chans = s.chans := by
  unfold State.countAll; exact (foldl_keep _ State.chans (by simp) _ _).trans (by simp)
@[simp] theorem State.countAll_results (s : State) (f : Counter → Counter × Bool) : (s.countAll f).results = s.results := by
  unfold State.countAll; exact (foldl_keep _ State.results (by simp) _ _).trans (by simp)
@[simp] theorem State.countAll_pending (s : State) (f : Counter → Counter × Bool) : (s.countAll f).pending = s.pending := by
  unfold State.countAll; exact (foldl_keep _ State.pending (by simp) _ _).trans (by simp)
@[simp] theorem State.countAll_link_receiver (s : State) (f : Counter → Counter × Bool) : (s.countAll f).link.receiver = s.link.receiver := by
  unfold State.countAll; exact (foldl_keep _ (fun t : State => t.link.receiver) (by simp) _ _).trans (by simp)
@[simp] theorem State.countAll_link_slot (s : State) (f : Counter → Counter × Bool) : (s.countAll f).link.slot = s.link.slot := by
  unfold State.countAll; exact (foldl_keep _ (fun t : State => t.link.slot) (by simp) _ _).trans (by simp)
@[simp] theorem State.countAll_link_fault (s : State) (f : Counter → Counter × Bool) : (s.countAll f).link.fault = s.link.fault := by
  unfold State.countAll; exact (foldl_keep _ (fun t : State => t.link.fault) (by simp) _ _).trans (by simp)
@[simp] theorem State.countAll_link_errorCount (s : State) (f : Counter → Counter × Bool) : (s.countAll f).link.errorCount = s.link.errorCount := by
  unfold State.countAll; exact (foldl_keep _ (fun t : State => t.link.errorCount) (by simp) _ _).trans (by simp)
@[simp] theorem State.countAll_link_sending (s : State) (f : Counter → Counter × Bool) : (s.countAll f).link.sending = s.link.sending := by
  unfold State.countAll; exact (foldl_keep _ (fun t : State => t.link.sending) (by simp) _ _).trans (by simp)
@[simp] theorem State.countAll_link_waiting (s : State) (f : Counter → Counter × Bool) : (s.countAll f).link.waiting = s.link.waiting := by
  unfold State.countAll; exact (foldl_keep _ (fun t : State => t.link.waiting) (by simp) _ _).trans (by simp)
@[simp] theorem State.countAll_link_enableMask (s : State) (f : Counter → Counter × Bool) : (s.countAll f).link.enableMask = s.link.enableMask := by
  unfold State.countAll; exact (foldl_keep _ (fun t : State => t.link.enableMask) (by simp) _ _).trans (by simp)
@[simp] theorem State.countAll_link_watermark (s : State) (f : Counter → Counter × Bool) : (s.countAll f).link.watermark = s.link.watermark := by
  unfold State.countAll; exact (foldl_keep _ (fun t : State => t.link.watermark) (by simp) _ _).trans (by simp)
@[simp] theorem State.countAll_disp_fetch (s : State) (f : Counter → Counter × Bool) : (s.countAll f).disp.fetch = s.disp.fetch := by
  unfold State.countAll; exact (foldl_keep _ (fun t : State => t.disp.fetch) (by simp) _ _).trans (by simp)
@[simp] theorem State.countAll_disp_paused (s : State) (f : Counter → Counter × Bool) : (s.countAll f).disp.paused = s.disp.paused := by
  unfold State.countAll; exact (foldl_keep _ (fun t : State => t.disp.paused) (by simp) _ _).trans (by simp)
@[simp] theorem State.countAll_disp_starved (s : State) (f : Counter → Counter × Bool) : (s.countAll f).disp.starved = s.disp.starved := by
  unfold State.countAll; exact (foldl_keep _ (fun t : State => t.disp.starved) (by simp) _ _).trans (by simp)
@[simp] theorem State.countAll_sites_count (s : State) (f : Counter → Counter × Bool) : (s.countAll f).sites.count = s.sites.count := by
  unfold State.countAll; exact (foldl_keep _ (fun t : State => t.sites.count) (by simp) _ _).trans (by simp)
@[simp] theorem State.countAll_run_state (s : State) (f : Counter → Counter × Bool) : (s.countAll f).run.state = s.run.state := by
  unfold State.countAll; exact (foldl_keep _ (fun t : State => t.run.state) (by simp) _ _).trans (by simp)
@[simp] theorem State.countAll_run_enabled (s : State) (f : Counter → Counter × Bool) : (s.countAll f).run.enabled = s.run.enabled := by
  unfold State.countAll; exact (foldl_keep _ (fun t : State => t.run.enabled) (by simp) _ _).trans (by simp)
@[simp] theorem State.countAll_run_vac (s : State) (f : Counter → Counter × Bool) : (s.countAll f).run.vac = s.run.vac := by
  unfold State.countAll; exact (foldl_keep _ (fun t : State => t.run.vac) (by simp) _ _).trans (by simp)
@[simp] theorem State.countAll_run_lid (s : State) (f : Counter → Counter × Bool) : (s.countAll f).run.lid = s.run.lid := by
  unfold State.countAll; exact (foldl_keep _ (fun t : State => t.run.lid) (by simp) _ _).trans (by simp)
@[simp] theorem State.countAll_run_outputs (s : State) (f : Counter → Counter × Bool) : (s.countAll f).run.outputs = s.run.outputs := by
  unfold State.countAll; exact (foldl_keep _ (fun t : State => t.run.outputs) (by simp) _ _).trans (by simp)

@[simp] theorem State.offer_time (s : State) (o : Occurrence) : (s.offer o).time = s.time := by
  simp [State.offer]
@[simp] theorem State.offer_tickTaken (s : State) (o : Occurrence) : (s.offer o).tickTaken = s.tickTaken := by
  simp [State.offer]
@[simp] theorem State.offer_relays (s : State) (o : Occurrence) : (s.offer o).relays = s.relays := by
  simp [State.offer]
@[simp] theorem State.offer_chans (s : State) (o : Occurrence) : (s.offer o).chans = s.chans := by
  simp [State.offer]
@[simp] theorem State.offer_results (s : State) (o : Occurrence) : (s.offer o).results = s.results := by
  simp [State.offer]
@[simp] theorem State.offer_pending (s : State) (o : Occurrence) : (s.offer o).pending = s.pending := by
  simp [State.offer]
@[simp] theorem State.offer_link_receiver (s : State) (o : Occurrence) : (s.offer o).link.receiver = s.link.receiver := by
  simp [State.offer]
@[simp] theorem State.offer_link_slot (s : State) (o : Occurrence) : (s.offer o).link.slot = s.link.slot := by
  simp [State.offer]
@[simp] theorem State.offer_link_fault (s : State) (o : Occurrence) : (s.offer o).link.fault = s.link.fault := by
  simp [State.offer]
@[simp] theorem State.offer_link_errorCount (s : State) (o : Occurrence) : (s.offer o).link.errorCount = s.link.errorCount := by
  simp [State.offer]
@[simp] theorem State.offer_link_sending (s : State) (o : Occurrence) : (s.offer o).link.sending = s.link.sending := by
  simp [State.offer]
@[simp] theorem State.offer_link_waiting (s : State) (o : Occurrence) : (s.offer o).link.waiting = s.link.waiting := by
  simp [State.offer]
@[simp] theorem State.offer_link_enableMask (s : State) (o : Occurrence) : (s.offer o).link.enableMask = s.link.enableMask := by
  simp [State.offer]
@[simp] theorem State.offer_link_watermark (s : State) (o : Occurrence) : (s.offer o).link.watermark = s.link.watermark := by
  simp [State.offer]
@[simp] theorem State.offer_disp_fetch (s : State) (o : Occurrence) : (s.offer o).disp.fetch = s.disp.fetch := by
  simp [State.offer]
@[simp] theorem State.offer_disp_paused (s : State) (o : Occurrence) : (s.offer o).disp.paused = s.disp.paused := by
  simp [State.offer]
@[simp] theorem State.offer_disp_starved (s : State) (o : Occurrence) : (s.offer o).disp.starved = s.disp.starved := by
  simp [State.offer]
@[simp] theorem State.offer_sites_count (s : State) (o : Occurrence) : (s.offer o).sites.count = s.sites.count := by
  simp [State.offer]
@[simp] theorem State.offer_run_state (s : State) (o : Occurrence) : (s.offer o).run.state = s.run.state := by
  simp [State.offer]
@[simp] theorem State.offer_run_enabled (s : State) (o : Occurrence) : (s.offer o).run.enabled = s.run.enabled := by
  simp [State.offer]
@[simp] theorem State.offer_run_vac (s : State) (o : Occurrence) : (s.offer o).run.vac = s.run.vac := by
  simp [State.offer]
@[simp] theorem State.offer_run_lid (s : State) (o : Occurrence) : (s.offer o).run.lid = s.run.lid := by
  simp [State.offer]
@[simp] theorem State.offer_run_outputs (s : State) (o : Occurrence) : (s.offer o).run.outputs = s.run.outputs := by
  simp [State.offer]

@[simp] theorem State.tickCounters_time (s : State) : (s.tickCounters).time = s.time := by
  simp [State.tickCounters]
@[simp] theorem State.tickCounters_tickTaken (s : State) : (s.tickCounters).tickTaken = s.tickTaken := by
  simp [State.tickCounters]
@[simp] theorem State.tickCounters_relays (s : State) : (s.tickCounters).relays = s.relays := by
  simp [State.tickCounters]
@[simp] theorem State.tickCounters_chans (s : State) : (s.tickCounters).chans = s.chans := by
  simp [State.tickCounters]
@[simp] theorem State.tickCounters_results (s : State) : (s.tickCounters).results = s.results := by
  simp [State.tickCounters]
@[simp] theorem State.tickCounters_pending (s : State) : (s.tickCounters).pending = s.pending := by
  simp [State.tickCounters]
@[simp] theorem State.tickCounters_link_receiver (s : State) : (s.tickCounters).link.receiver = s.link.receiver := by
  simp [State.tickCounters]
@[simp] theorem State.tickCounters_link_slot (s : State) : (s.tickCounters).link.slot = s.link.slot := by
  simp [State.tickCounters]
@[simp] theorem State.tickCounters_link_fault (s : State) : (s.tickCounters).link.fault = s.link.fault := by
  simp [State.tickCounters]
@[simp] theorem State.tickCounters_link_errorCount (s : State) : (s.tickCounters).link.errorCount = s.link.errorCount := by
  simp [State.tickCounters]
@[simp] theorem State.tickCounters_link_sending (s : State) : (s.tickCounters).link.sending = s.link.sending := by
  simp [State.tickCounters]
@[simp] theorem State.tickCounters_link_waiting (s : State) : (s.tickCounters).link.waiting = s.link.waiting := by
  simp [State.tickCounters]
@[simp] theorem State.tickCounters_link_enableMask (s : State) : (s.tickCounters).link.enableMask = s.link.enableMask := by
  simp [State.tickCounters]
@[simp] theorem State.tickCounters_link_watermark (s : State) : (s.tickCounters).link.watermark = s.link.watermark := by
  simp [State.tickCounters]
@[simp] theorem State.tickCounters_disp_fetch (s : State) : (s.tickCounters).disp.fetch = s.disp.fetch := by
  simp [State.tickCounters]
@[simp] theorem State.tickCounters_disp_paused (s : State) : (s.tickCounters).disp.paused = s.disp.paused := by
  simp [State.tickCounters]
@[simp] theorem State.tickCounters_disp_starved (s : State) : (s.tickCounters).disp.starved = s.disp.starved := by
  simp [State.tickCounters]
@[simp] theorem State.tickCounters_sites_count (s : State) : (s.tickCounters).sites.count = s.sites.count := by
  simp [State.tickCounters]
@[simp] theorem State.tickCounters_run_state (s : State) : (s.tickCounters).run.state = s.run.state := by
  simp [State.tickCounters]
@[simp] theorem State.tickCounters_run_enabled (s : State) : (s.tickCounters).run.enabled = s.run.enabled := by
  simp [State.tickCounters]
@[simp] theorem State.tickCounters_run_vac (s : State) : (s.tickCounters).run.vac = s.run.vac := by
  simp [State.tickCounters]
@[simp] theorem State.tickCounters_run_lid (s : State) : (s.tickCounters).run.lid = s.run.lid := by
  simp [State.tickCounters]
@[simp] theorem State.tickCounters_run_outputs (s : State) : (s.tickCounters).run.outputs = s.run.outputs := by
  simp [State.tickCounters]

end Sys2Proof.Machine
end

