-- ==== Sys2Proof/Laws/FramesRelay.lean ====
section
/-! SUPPORT. What the operations of the Relay Map, the channels and the dispatcher leave unchanged, one lemma for each field. -/

namespace Sys2Proof.Machine

@[simp] theorem State.appendEntry_time (s : State) (o : Chan) (w : ReleaseCause) (n : List Node) : (s.appendEntry o w n).time = s.time := by
  rfl
@[simp] theorem State.appendEntry_tickTaken (s : State) (o : Chan) (w : ReleaseCause) (n : List Node) : (s.appendEntry o w n).tickTaken = s.tickTaken := by
  rfl
@[simp] theorem State.appendEntry_plan (s : State) (o : Chan) (w : ReleaseCause) (n : List Node) : (s.appendEntry o w n).plan = s.plan := by
  rfl
@[simp] theorem State.appendEntry_sites (s : State) (o : Chan) (w : ReleaseCause) (n : List Node) : (s.appendEntry o w n).sites = s.sites := by
  rfl
@[simp] theorem State.appendEntry_disp (s : State) (o : Chan) (w : ReleaseCause) (n : List Node) : (s.appendEntry o w n).disp = s.disp := by
  rfl
@[simp] theorem State.appendEntry_chans (s : State) (o : Chan) (w : ReleaseCause) (n : List Node) : (s.appendEntry o w n).chans = s.chans := by
  rfl
@[simp] theorem State.appendEntry_results (s : State) (o : Chan) (w : ReleaseCause) (n : List Node) : (s.appendEntry o w n).results = s.results := by
  rfl
@[simp] theorem State.appendEntry_counters (s : State) (o : Chan) (w : ReleaseCause) (n : List Node) : (s.appendEntry o w n).counters = s.counters := by
  rfl
@[simp] theorem State.appendEntry_run (s : State) (o : Chan) (w : ReleaseCause) (n : List Node) : (s.appendEntry o w n).run = s.run := by
  rfl
@[simp] theorem State.appendEntry_link (s : State) (o : Chan) (w : ReleaseCause) (n : List Node) : (s.appendEntry o w n).link = s.link := by
  rfl
@[simp] theorem State.appendEntry_pending (s : State) (o : Chan) (w : ReleaseCause) (n : List Node) : (s.appendEntry o w n).pending = s.pending := by
  rfl
@[simp] theorem State.appendEntry_relays_tOp (s : State) (o : Chan) (w : ReleaseCause) (n : List Node) : (s.appendEntry o w n).relays.tOp = s.relays.tOp := by
  rfl
@[simp] theorem State.appendEntry_relays_tRel (s : State) (o : Chan) (w : ReleaseCause) (n : List Node) : (s.appendEntry o w n).relays.tRel = s.relays.tRel := by
  rfl

@[simp] theorem State.appendEntry_relays_waitList (s : State) (o : Chan) (w : ReleaseCause) (n : List Node) :
    (s.appendEntry o w n).relays.waitList = s.relays.waitList := rfl
@[simp] theorem State.appendEntry_relays_batches (s : State) (o : Chan) (w : ReleaseCause) (n : List Node) :
    (s.appendEntry o w n).relays.batches = s.relays.batches := rfl

@[simp] theorem State.parkNodes_time (s : State) (c : Chan) : (s.parkNodes c).time = s.time := by
  rfl
@[simp] theorem State.parkNodes_tickTaken (s : State) (c : Chan) : (s.parkNodes c).tickTaken = s.tickTaken := by
  rfl
@[simp] theorem State.parkNodes_plan (s : State) (c : Chan) : (s.parkNodes c).plan = s.plan := by
  rfl
@[simp] theorem State.parkNodes_sites (s : State) (c : Chan) : (s.parkNodes c).sites = s.sites := by
  rfl
@[simp] theorem State.parkNodes_disp (s : State) (c : Chan) : (s.parkNodes c).disp = s.disp := by
  rfl
@[simp] theorem State.parkNodes_chans (s : State) (c : Chan) : (s.parkNodes c).chans = s.chans := by
  rfl
@[simp] theorem State.parkNodes_results (s : State) (c : Chan) : (s.parkNodes c).results = s.results := by
  rfl
@[simp] theorem State.parkNodes_counters (s : State) (c : Chan) : (s.parkNodes c).counters = s.counters := by
  rfl
@[simp] theorem State.parkNodes_run (s : State) (c : Chan) : (s.parkNodes c).run = s.run := by
  rfl
@[simp] theorem State.parkNodes_link (s : State) (c : Chan) : (s.parkNodes c).link = s.link := by
  rfl
@[simp] theorem State.parkNodes_pending (s : State) (c : Chan) : (s.parkNodes c).pending = s.pending := by
  rfl
@[simp] theorem State.parkNodes_relays_tOp (s : State) (c : Chan) : (s.parkNodes c).relays.tOp = s.relays.tOp := by
  rfl
@[simp] theorem State.parkNodes_relays_tRel (s : State) (c : Chan) : (s.parkNodes c).relays.tRel = s.relays.tRel := by
  rfl

@[simp] theorem State.joinWaitList_time (s : State) (c : Chan) (w : WaitCause) : (s.joinWaitList c w).time = s.time := by
  rfl
@[simp] theorem State.joinWaitList_tickTaken (s : State) (c : Chan) (w : WaitCause) : (s.joinWaitList c w).tickTaken = s.tickTaken := by
  rfl
@[simp] theorem State.joinWaitList_plan (s : State) (c : Chan) (w : WaitCause) : (s.joinWaitList c w).plan = s.plan := by
  rfl
@[simp] theorem State.joinWaitList_sites (s : State) (c : Chan) (w : WaitCause) : (s.joinWaitList c w).sites = s.sites := by
  rfl
@[simp] theorem State.joinWaitList_disp (s : State) (c : Chan) (w : WaitCause) : (s.joinWaitList c w).disp = s.disp := by
  rfl
@[simp] theorem State.joinWaitList_chans (s : State) (c : Chan) (w : WaitCause) : (s.joinWaitList c w).chans = s.chans := by
  rfl
@[simp] theorem State.joinWaitList_results (s : State) (c : Chan) (w : WaitCause) : (s.joinWaitList c w).results = s.results := by
  rfl
@[simp] theorem State.joinWaitList_counters (s : State) (c : Chan) (w : WaitCause) : (s.joinWaitList c w).counters = s.counters := by
  rfl
@[simp] theorem State.joinWaitList_run (s : State) (c : Chan) (w : WaitCause) : (s.joinWaitList c w).run = s.run := by
  rfl
@[simp] theorem State.joinWaitList_link (s : State) (c : Chan) (w : WaitCause) : (s.joinWaitList c w).link = s.link := by
  rfl
@[simp] theorem State.joinWaitList_pending (s : State) (c : Chan) (w : WaitCause) : (s.joinWaitList c w).pending = s.pending := by
  rfl
@[simp] theorem State.joinWaitList_relays_tOp (s : State) (c : Chan) (w : WaitCause) : (s.joinWaitList c w).relays.tOp = s.relays.tOp := by
  rfl
@[simp] theorem State.joinWaitList_relays_tRel (s : State) (c : Chan) (w : WaitCause) : (s.joinWaitList c w).relays.tRel = s.relays.tRel := by
  rfl

@[simp] theorem State.dropWaiting_time (s : State) : (s.dropWaiting).time = s.time := by
  rfl
@[simp] theorem State.dropWaiting_tickTaken (s : State) : (s.dropWaiting).tickTaken = s.tickTaken := by
  rfl
@[simp] theorem State.dropWaiting_plan (s : State) : (s.dropWaiting).plan = s.plan := by
  rfl
@[simp] theorem State.dropWaiting_sites (s : State) : (s.dropWaiting).sites = s.sites := by
  rfl
@[simp] theorem State.dropWaiting_disp (s : State) : (s.dropWaiting).disp = s.disp := by
  rfl
@[simp] theorem State.dropWaiting_chans (s : State) : (s.dropWaiting).chans = s.chans := by
  rfl
@[simp] theorem State.dropWaiting_results (s : State) : (s.dropWaiting).results = s.results := by
  rfl
@[simp] theorem State.dropWaiting_counters (s : State) : (s.dropWaiting).counters = s.counters := by
  rfl
@[simp] theorem State.dropWaiting_run (s : State) : (s.dropWaiting).run = s.run := by
  rfl
@[simp] theorem State.dropWaiting_link (s : State) : (s.dropWaiting).link = s.link := by
  rfl
@[simp] theorem State.dropWaiting_pending (s : State) : (s.dropWaiting).pending = s.pending := by
  rfl
@[simp] theorem State.dropWaiting_relays_tOp (s : State) : (s.dropWaiting).relays.tOp = s.relays.tOp := by
  rfl
@[simp] theorem State.dropWaiting_relays_tRel (s : State) : (s.dropWaiting).relays.tRel = s.relays.tRel := by
  rfl

@[simp] theorem State.makeIdle_time (s : State) (c : Chan) : (s.makeIdle c).time = s.time := by
  rfl
@[simp] theorem State.makeIdle_tickTaken (s : State) (c : Chan) : (s.makeIdle c).tickTaken = s.tickTaken := by
  rfl
@[simp] theorem State.makeIdle_plan (s : State) (c : Chan) : (s.makeIdle c).plan = s.plan := by
  rfl
@[simp] theorem State.makeIdle_sites (s : State) (c : Chan) : (s.makeIdle c).sites = s.sites := by
  rfl
@[simp] theorem State.makeIdle_relays (s : State) (c : Chan) : (s.makeIdle c).relays = s.relays := by
  rfl
@[simp] theorem State.makeIdle_results (s : State) (c : Chan) : (s.makeIdle c).results = s.results := by
  rfl
@[simp] theorem State.makeIdle_counters (s : State) (c : Chan) : (s.makeIdle c).counters = s.counters := by
  rfl
@[simp] theorem State.makeIdle_run (s : State) (c : Chan) : (s.makeIdle c).run = s.run := by
  rfl
@[simp] theorem State.makeIdle_link (s : State) (c : Chan) : (s.makeIdle c).link = s.link := by
  rfl
@[simp] theorem State.makeIdle_pending (s : State) (c : Chan) : (s.makeIdle c).pending = s.pending := by
  rfl
@[simp] theorem State.makeIdle_disp_fetch (s : State) (c : Chan) : (s.makeIdle c).disp.fetch = s.disp.fetch := by
  rfl
@[simp] theorem State.makeIdle_disp_paused (s : State) (c : Chan) : (s.makeIdle c).disp.paused = s.disp.paused := by
  rfl
@[simp] theorem State.makeIdle_disp_starved (s : State) (c : Chan) : (s.makeIdle c).disp.starved = s.disp.starved := by
  rfl

@[simp] theorem grantSlot_time (w : List WaitItem) (s : State) : (grantSlot w s).time = s.time := by
  induction w generalizing s with
  | nil => rfl
  | cons x w ih =>
    unfold grantSlot
    cases x.cause
    · simp
    · simp only
      split
      · rw [ih]; simp
      · simp
@[simp] theorem grantSlot_tickTaken (w : List WaitItem) (s : State) : (grantSlot w s).tickTaken = s.tickTaken := by
  induction w generalizing s with
  | nil => rfl
  | cons x w ih =>
    unfold grantSlot
    cases x.cause
    · simp
    · simp only
      split
      · rw [ih]; simp
      · simp
@[simp] theorem grantSlot_plan (w : List WaitItem) (s : State) : (grantSlot w s).plan = s.plan := by
  induction w generalizing s with
  | nil => rfl
  | cons x w ih =>
    unfold grantSlot
    cases x.cause
    · simp
    · simp only
      split
      · rw [ih]; simp
      · simp
@[simp] theorem grantSlot_sites (w : List WaitItem) (s : State) : (grantSlot w s).sites = s.sites := by
  induction w generalizing s with
  | nil => rfl
  | cons x w ih =>
    unfold grantSlot
    cases x.cause
    · simp
    · simp only
      split
      · rw [ih]; simp
      · simp
@[simp] theorem grantSlot_results (w : List WaitItem) (s : State) : (grantSlot w s).results = s.results := by
  induction w generalizing s with
  | nil => rfl
  | cons x w ih =>
    unfold grantSlot
    cases x.cause
    · simp
    · simp only
      split
      · rw [ih]; simp
      · simp
@[simp] theorem grantSlot_counters (w : List WaitItem) (s : State) : (grantSlot w s).counters = s.counters := by
  induction w generalizing s with
  | nil => rfl
  | cons x w ih =>
    unfold grantSlot
    cases x.cause
    · simp
    · simp only
      split
      · rw [ih]; simp
      · simp
@[simp] theorem grantSlot_run (w : List WaitItem) (s : State) : (grantSlot w s).run = s.run := by
  induction w generalizing s with
  | nil => rfl
  | cons x w ih =>
    unfold grantSlot
    cases x.cause
    · simp
    · simp only
      split
      · rw [ih]; simp
      · simp
@[simp] theorem grantSlot_link (w : List WaitItem) (s : State) : (grantSlot w s).link = s.link := by
  induction w generalizing s with
  | nil => rfl
  | cons x w ih =>
    unfold grantSlot
    cases x.cause
    · simp
    · simp only
      split
      · rw [ih]; simp
      · simp
@[simp] theorem grantSlot_pending (w : List WaitItem) (s : State) : (grantSlot w s).pending = s.pending := by
  induction w generalizing s with
  | nil => rfl
  | cons x w ih =>
    unfold grantSlot
    cases x.cause
    · simp
    · simp only
      split
      · rw [ih]; simp
      · simp
@[simp] theorem grantSlot_disp_fetch (w : List WaitItem) (s : State) : (grantSlot w s).disp.fetch = s.disp.fetch := by
  induction w generalizing s with
  | nil => rfl
  | cons x w ih =>
    unfold grantSlot
    cases x.cause
    · simp
    · simp only
      split
      · rw [ih]; simp
      · simp
@[simp] theorem grantSlot_disp_paused (w : List WaitItem) (s : State) : (grantSlot w s).disp.paused = s.disp.paused := by
  induction w generalizing s with
  | nil => rfl
  | cons x w ih =>
    unfold grantSlot
    cases x.cause
    · simp
    · simp only
      split
      · rw [ih]; simp
      · simp
@[simp] theorem grantSlot_disp_starved (w : List WaitItem) (s : State) : (grantSlot w s).disp.starved = s.disp.starved := by
  induction w generalizing s with
  | nil => rfl
  | cons x w ih =>
    unfold grantSlot
    cases x.cause
    · simp
    · simp only
      split
      · rw [ih]; simp
      · simp
@[simp] theorem grantSlot_relays_tOp (w : List WaitItem) (s : State) : (grantSlot w s).relays.tOp = s.relays.tOp := by
  induction w generalizing s with
  | nil => rfl
  | cons x w ih =>
    unfold grantSlot
    cases x.cause
    · simp
    · simp only
      split
      · rw [ih]; simp
      · simp
@[simp] theorem grantSlot_relays_tRel (w : List WaitItem) (s : State) : (grantSlot w s).relays.tRel = s.relays.tRel := by
  induction w generalizing s with
  | nil => rfl
  | cons x w ih =>
    unfold grantSlot
    cases x.cause
    · simp
    · simp only
      split
      · rw [ih]; simp
      · simp

@[simp] theorem State.endRelease_time (s : State) (c : Chan) : (s.endRelease c).time = s.time := by
  unfold State.endRelease; (repeat' split) <;> simp
@[simp] theorem State.endRelease_tickTaken (s : State) (c : Chan) : (s.endRelease c).tickTaken = s.tickTaken := by
  unfold State.endRelease; (repeat' split) <;> simp
@[simp] theorem State.endRelease_plan (s : State) (c : Chan) : (s.endRelease c).plan = s.plan := by
  unfold State.endRelease; (repeat' split) <;> simp
@[simp] theorem State.endRelease_sites (s : State) (c : Chan) : (s.endRelease c).sites = s.sites := by
  unfold State.endRelease; (repeat' split) <;> simp
@[simp] theorem State.endRelease_disp (s : State) (c : Chan) : (s.endRelease c).disp = s.disp := by
  unfold State.endRelease; (repeat' split) <;> simp
@[simp] theorem State.endRelease_chans (s : State) (c : Chan) : (s.endRelease c).chans = s.chans := by
  unfold State.endRelease; (repeat' split) <;> simp
@[simp] theorem State.endRelease_results (s : State) (c : Chan) : (s.endRelease c).results = s.results := by
  unfold State.endRelease; (repeat' split) <;> simp
@[simp] theorem State.endRelease_counters (s : State) (c : Chan) : (s.endRelease c).counters = s.counters := by
  unfold State.endRelease; (repeat' split) <;> simp
@[simp] theorem State.endRelease_run (s : State) (c : Chan) : (s.endRelease c).run = s.run := by
  unfold State.endRelease; (repeat' split) <;> simp
@[simp] theorem State.endRelease_link (s : State) (c : Chan) : (s.endRelease c).link = s.link := by
  unfold State.endRelease; (repeat' split) <;> simp
@[simp] theorem State.endRelease_pending (s : State) (c : Chan) : (s.endRelease c).pending = s.pending := by
  unfold State.endRelease; (repeat' split) <;> simp
@[simp] theorem State.endRelease_relays_tOp (s : State) (c : Chan) : (s.endRelease c).relays.tOp = s.relays.tOp := by
  unfold State.endRelease; (repeat' split) <;> simp
@[simp] theorem State.endRelease_relays_tRel (s : State) (c : Chan) : (s.endRelease c).relays.tRel = s.relays.tRel := by
  unfold State.endRelease; (repeat' split) <;> simp

@[simp] theorem State.endReleaseAll_time (s : State) : (s.endReleaseAll).time = s.time := by
  exact foldl_keep _ State.time (by simp) _ s
@[simp] theorem State.endReleaseAll_tickTaken (s : State) : (s.endReleaseAll).tickTaken = s.tickTaken := by
  exact foldl_keep _ State.tickTaken (by simp) _ s
@[simp] theorem State.endReleaseAll_plan (s : State) : (s.endReleaseAll).plan = s.plan := by
  exact foldl_keep _ State.plan (by simp) _ s
@[simp] theorem State.endReleaseAll_sites (s : State) : (s.endReleaseAll).sites = s.sites := by
  exact foldl_keep _ State.sites (by simp) _ s
@[simp] theorem State.endReleaseAll_disp (s : State) : (s.endReleaseAll).disp = s.disp := by
  exact foldl_keep _ State.disp (by simp) _ s
@[simp] theorem State.endReleaseAll_chans (s : State) : (s.endReleaseAll).chans = s.chans := by
  exact foldl_keep _ State.chans (by simp) _ s
@[simp] theorem State.endReleaseAll_results (s : State) : (s.endReleaseAll).results = s.results := by
  exact foldl_keep _ State.results (by simp) _ s
@[simp] theorem State.endReleaseAll_counters (s : State) : (s.endReleaseAll).counters = s.counters := by
  exact foldl_keep _ State.counters (by simp) _ s
@[simp] theorem State.endReleaseAll_run (s : State) : (s.endReleaseAll).run = s.run := by
  exact foldl_keep _ State.run (by simp) _ s
@[simp] theorem State.endReleaseAll_link (s : State) : (s.endReleaseAll).link = s.link := by
  exact foldl_keep _ State.link (by simp) _ s
@[simp] theorem State.endReleaseAll_pending (s : State) : (s.endReleaseAll).pending = s.pending := by
  exact foldl_keep _ State.pending (by simp) _ s
@[simp] theorem State.endReleaseAll_relays_tOp (s : State) : (s.endReleaseAll).relays.tOp = s.relays.tOp := by
  exact foldl_keep _ (fun t : State => t.relays.tOp) (by simp) _ s
@[simp] theorem State.endReleaseAll_relays_tRel (s : State) : (s.endReleaseAll).relays.tRel = s.relays.tRel := by
  exact foldl_keep _ (fun t : State => t.relays.tRel) (by simp) _ s

@[simp] theorem State.releaseChannel_time (s : State) (c : Chan) : (s.releaseChannel c).time = s.time := by
  unfold State.releaseChannel; (repeat' split) <;> simp
@[simp] theorem State.releaseChannel_tickTaken (s : State) (c : Chan) : (s.releaseChannel c).tickTaken = s.tickTaken := by
  unfold State.releaseChannel; (repeat' split) <;> simp
@[simp] theorem State.releaseChannel_plan (s : State) (c : Chan) : (s.releaseChannel c).plan = s.plan := by
  unfold State.releaseChannel; (repeat' split) <;> simp
@[simp] theorem State.releaseChannel_sites (s : State) (c : Chan) : (s.releaseChannel c).sites = s.sites := by
  unfold State.releaseChannel; (repeat' split) <;> simp
@[simp] theorem State.releaseChannel_results (s : State) (c : Chan) : (s.releaseChannel c).results = s.results := by
  unfold State.releaseChannel; (repeat' split) <;> simp
@[simp] theorem State.releaseChannel_counters (s : State) (c : Chan) : (s.releaseChannel c).counters = s.counters := by
  unfold State.releaseChannel; (repeat' split) <;> simp
@[simp] theorem State.releaseChannel_run (s : State) (c : Chan) : (s.releaseChannel c).run = s.run := by
  unfold State.releaseChannel; (repeat' split) <;> simp
@[simp] theorem State.releaseChannel_link (s : State) (c : Chan) : (s.releaseChannel c).link = s.link := by
  unfold State.releaseChannel; (repeat' split) <;> simp
@[simp] theorem State.releaseChannel_pending (s : State) (c : Chan) : (s.releaseChannel c).pending = s.pending := by
  unfold State.releaseChannel; (repeat' split) <;> simp
@[simp] theorem State.releaseChannel_disp_fetch (s : State) (c : Chan) : (s.releaseChannel c).disp.fetch = s.disp.fetch := by
  unfold State.releaseChannel; (repeat' split) <;> simp
@[simp] theorem State.releaseChannel_disp_paused (s : State) (c : Chan) : (s.releaseChannel c).disp.paused = s.disp.paused := by
  unfold State.releaseChannel; (repeat' split) <;> simp
@[simp] theorem State.releaseChannel_disp_starved (s : State) (c : Chan) : (s.releaseChannel c).disp.starved = s.disp.starved := by
  unfold State.releaseChannel; (repeat' split) <;> simp
@[simp] theorem State.releaseChannel_relays_tOp (s : State) (c : Chan) : (s.releaseChannel c).relays.tOp = s.relays.tOp := by
  unfold State.releaseChannel; (repeat' split) <;> simp
@[simp] theorem State.releaseChannel_relays_tRel (s : State) (c : Chan) : (s.releaseChannel c).relays.tRel = s.relays.tRel := by
  unfold State.releaseChannel; (repeat' split) <;> simp

@[simp] theorem State.emergencyOpen_time (s : State) : (s.emergencyOpen).time = s.time := by
  rfl
@[simp] theorem State.emergencyOpen_tickTaken (s : State) : (s.emergencyOpen).tickTaken = s.tickTaken := by
  rfl
@[simp] theorem State.emergencyOpen_plan (s : State) : (s.emergencyOpen).plan = s.plan := by
  rfl
@[simp] theorem State.emergencyOpen_sites (s : State) : (s.emergencyOpen).sites = s.sites := by
  rfl
@[simp] theorem State.emergencyOpen_disp (s : State) : (s.emergencyOpen).disp = s.disp := by
  rfl
@[simp] theorem State.emergencyOpen_chans (s : State) : (s.emergencyOpen).chans = s.chans := by
  rfl
@[simp] theorem State.emergencyOpen_results (s : State) : (s.emergencyOpen).results = s.results := by
  rfl
@[simp] theorem State.emergencyOpen_counters (s : State) : (s.emergencyOpen).counters = s.counters := by
  rfl
@[simp] theorem State.emergencyOpen_run (s : State) : (s.emergencyOpen).run = s.run := by
  rfl
@[simp] theorem State.emergencyOpen_link (s : State) : (s.emergencyOpen).link = s.link := by
  rfl
@[simp] theorem State.emergencyOpen_pending (s : State) : (s.emergencyOpen).pending = s.pending := by
  rfl
@[simp] theorem State.emergencyOpen_relays_tOp (s : State) : (s.emergencyOpen).relays.tOp = s.relays.tOp := by
  rfl
@[simp] theorem State.emergencyOpen_relays_tRel (s : State) : (s.emergencyOpen).relays.tRel = s.relays.tRel := by
  rfl

@[simp] theorem State.freeEntry_time (s : State) (e : ReleaseEntry) : (s.freeEntry e).time = s.time := by
  rfl
@[simp] theorem State.freeEntry_tickTaken (s : State) (e : ReleaseEntry) : (s.freeEntry e).tickTaken = s.tickTaken := by
  rfl
@[simp] theorem State.freeEntry_plan (s : State) (e : ReleaseEntry) : (s.freeEntry e).plan = s.plan := by
  rfl
@[simp] theorem State.freeEntry_sites (s : State) (e : ReleaseEntry) : (s.freeEntry e).sites = s.sites := by
  rfl
@[simp] theorem State.freeEntry_disp (s : State) (e : ReleaseEntry) : (s.freeEntry e).disp = s.disp := by
  rfl
@[simp] theorem State.freeEntry_chans (s : State) (e : ReleaseEntry) : (s.freeEntry e).chans = s.chans := by
  rfl
@[simp] theorem State.freeEntry_results (s : State) (e : ReleaseEntry) : (s.freeEntry e).results = s.results := by
  rfl
@[simp] theorem State.freeEntry_counters (s : State) (e : ReleaseEntry) : (s.freeEntry e).counters = s.counters := by
  rfl
@[simp] theorem State.freeEntry_run (s : State) (e : ReleaseEntry) : (s.freeEntry e).run = s.run := by
  rfl
@[simp] theorem State.freeEntry_link (s : State) (e : ReleaseEntry) : (s.freeEntry e).link = s.link := by
  rfl
@[simp] theorem State.freeEntry_pending (s : State) (e : ReleaseEntry) : (s.freeEntry e).pending = s.pending := by
  rfl
@[simp] theorem State.freeEntry_relays_tOp (s : State) (e : ReleaseEntry) : (s.freeEntry e).relays.tOp = s.relays.tOp := by
  rfl
@[simp] theorem State.freeEntry_relays_tRel (s : State) (e : ReleaseEntry) : (s.freeEntry e).relays.tRel = s.relays.tRel := by
  rfl

@[simp] theorem State.setPhase_time (s : State) (c : Chan) (p : Phase) : (s.setPhase c p).time = s.time := by
  unfold State.setPhase; split <;> simp
@[simp] theorem State.setPhase_tickTaken (s : State) (c : Chan) (p : Phase) : (s.setPhase c p).tickTaken = s.tickTaken := by
  unfold State.setPhase; split <;> simp
@[simp] theorem State.setPhase_plan (s : State) (c : Chan) (p : Phase) : (s.setPhase c p).plan = s.plan := by
  unfold State.setPhase; split <;> simp
@[simp] theorem State.setPhase_sites (s : State) (c : Chan) (p : Phase) : (s.setPhase c p).sites = s.sites := by
  unfold State.setPhase; split <;> simp
@[simp] theorem State.setPhase_disp (s : State) (c : Chan) (p : Phase) : (s.setPhase c p).disp = s.disp := by
  unfold State.setPhase; split <;> simp
@[simp] theorem State.setPhase_relays (s : State) (c : Chan) (p : Phase) : (s.setPhase c p).relays = s.relays := by
  unfold State.setPhase; split <;> simp
@[simp] theorem State.setPhase_results (s : State) (c : Chan) (p : Phase) : (s.setPhase c p).results = s.results := by
  unfold State.setPhase; split <;> simp
@[simp] theorem State.setPhase_counters (s : State) (c : Chan) (p : Phase) : (s.setPhase c p).counters = s.counters := by
  unfold State.setPhase; split <;> simp
@[simp] theorem State.setPhase_run (s : State) (c : Chan) (p : Phase) : (s.setPhase c p).run = s.run := by
  unfold State.setPhase; split <;> simp
@[simp] theorem State.setPhase_link (s : State) (c : Chan) (p : Phase) : (s.setPhase c p).link = s.link := by
  unfold State.setPhase; split <;> simp
@[simp] theorem State.setPhase_pending (s : State) (c : Chan) (p : Phase) : (s.setPhase c p).pending = s.pending := by
  unfold State.setPhase; split <;> simp

@[simp] theorem State.stimulusOff_time (s : State) (c : Chan) : (s.stimulusOff c).time = s.time := by
  rfl
@[simp] theorem State.stimulusOff_tickTaken (s : State) (c : Chan) : (s.stimulusOff c).tickTaken = s.tickTaken := by
  rfl
@[simp] theorem State.stimulusOff_plan (s : State) (c : Chan) : (s.stimulusOff c).plan = s.plan := by
  rfl
@[simp] theorem State.stimulusOff_sites (s : State) (c : Chan) : (s.stimulusOff c).sites = s.sites := by
  rfl
@[simp] theorem State.stimulusOff_disp (s : State) (c : Chan) : (s.stimulusOff c).disp = s.disp := by
  rfl
@[simp] theorem State.stimulusOff_relays (s : State) (c : Chan) : (s.stimulusOff c).relays = s.relays := by
  rfl
@[simp] theorem State.stimulusOff_results (s : State) (c : Chan) : (s.stimulusOff c).results = s.results := by
  rfl
@[simp] theorem State.stimulusOff_counters (s : State) (c : Chan) : (s.stimulusOff c).counters = s.counters := by
  rfl
@[simp] theorem State.stimulusOff_run (s : State) (c : Chan) : (s.stimulusOff c).run = s.run := by
  rfl
@[simp] theorem State.stimulusOff_link (s : State) (c : Chan) : (s.stimulusOff c).link = s.link := by
  rfl
@[simp] theorem State.stimulusOff_pending (s : State) (c : Chan) : (s.stimulusOff c).pending = s.pending := by
  rfl

@[simp] theorem State.withMonitor_time (s : State) (c : Chan) (m : Monitor) (u : ReadingUnit) : (s.withMonitor c m u).time = s.time := by
  rfl
@[simp] theorem State.withMonitor_tickTaken (s : State) (c : Chan) (m : Monitor) (u : ReadingUnit) : (s.withMonitor c m u).tickTaken = s.tickTaken := by
  rfl
@[simp] theorem State.withMonitor_plan (s : State) (c : Chan) (m : Monitor) (u : ReadingUnit) : (s.withMonitor c m u).plan = s.plan := by
  rfl
@[simp] theorem State.withMonitor_sites (s : State) (c : Chan) (m : Monitor) (u : ReadingUnit) : (s.withMonitor c m u).sites = s.sites := by
  rfl
@[simp] theorem State.withMonitor_disp (s : State) (c : Chan) (m : Monitor) (u : ReadingUnit) : (s.withMonitor c m u).disp = s.disp := by
  rfl
@[simp] theorem State.withMonitor_relays (s : State) (c : Chan) (m : Monitor) (u : ReadingUnit) : (s.withMonitor c m u).relays = s.relays := by
  rfl
@[simp] theorem State.withMonitor_results (s : State) (c : Chan) (m : Monitor) (u : ReadingUnit) : (s.withMonitor c m u).results = s.results := by
  rfl
@[simp] theorem State.withMonitor_counters (s : State) (c : Chan) (m : Monitor) (u : ReadingUnit) : (s.withMonitor c m u).counters = s.counters := by
  rfl
@[simp] theorem State.withMonitor_run (s : State) (c : Chan) (m : Monitor) (u : ReadingUnit) : (s.withMonitor c m u).run = s.run := by
  rfl
@[simp] theorem State.withMonitor_link (s : State) (c : Chan) (m : Monitor) (u : ReadingUnit) : (s.withMonitor c m u).link = s.link := by
  rfl
@[simp] theorem State.withMonitor_pending (s : State) (c : Chan) (m : Monitor) (u : ReadingUnit) : (s.withMonitor c m u).pending = s.pending := by
  rfl

@[simp] theorem State.connectionMade_time (s : State) (c : Chan) (k : Running) : (s.connectionMade c k).time = s.time := by
  unfold State.connectionMade; cases k.inst.step.kind <;> simp
@[simp] theorem State.connectionMade_tickTaken (s : State) (c : Chan) (k : Running) : (s.connectionMade c k).tickTaken = s.tickTaken := by
  unfold State.connectionMade; cases k.inst.step.kind <;> simp
@[simp] theorem State.connectionMade_plan (s : State) (c : Chan) (k : Running) : (s.connectionMade c k).plan = s.plan := by
  unfold State.connectionMade; cases k.inst.step.kind <;> simp
@[simp] theorem State.connectionMade_sites (s : State) (c : Chan) (k : Running) : (s.connectionMade c k).sites = s.sites := by
  unfold State.connectionMade; cases k.inst.step.kind <;> simp
@[simp] theorem State.connectionMade_disp (s : State) (c : Chan) (k : Running) : (s.connectionMade c k).disp = s.disp := by
  unfold State.connectionMade; cases k.inst.step.kind <;> simp
@[simp] theorem State.connectionMade_relays (s : State) (c : Chan) (k : Running) : (s.connectionMade c k).relays = s.relays := by
  unfold State.connectionMade; cases k.inst.step.kind <;> simp
@[simp] theorem State.connectionMade_results (s : State) (c : Chan) (k : Running) : (s.connectionMade c k).results = s.results := by
  unfold State.connectionMade; cases k.inst.step.kind <;> simp
@[simp] theorem State.connectionMade_counters (s : State) (c : Chan) (k : Running) : (s.connectionMade c k).counters = s.counters := by
  unfold State.connectionMade; cases k.inst.step.kind <;> simp
@[simp] theorem State.connectionMade_run (s : State) (c : Chan) (k : Running) : (s.connectionMade c k).run = s.run := by
  unfold State.connectionMade; cases k.inst.step.kind <;> simp
@[simp] theorem State.connectionMade_link (s : State) (c : Chan) (k : Running) : (s.connectionMade c k).link = s.link := by
  unfold State.connectionMade; cases k.inst.step.kind <;> simp
@[simp] theorem State.connectionMade_pending (s : State) (c : Chan) (k : Running) : (s.connectionMade c k).pending = s.pending := by
  unfold State.connectionMade; cases k.inst.step.kind <;> simp

@[simp] theorem State.closeNodes_time (s : State) (c : Chan) (p : List (Node × Line)) : (s.closeNodes c p).time = s.time := by
  rfl
@[simp] theorem State.closeNodes_tickTaken (s : State) (c : Chan) (p : List (Node × Line)) : (s.closeNodes c p).tickTaken = s.tickTaken := by
  rfl
@[simp] theorem State.closeNodes_plan (s : State) (c : Chan) (p : List (Node × Line)) : (s.closeNodes c p).plan = s.plan := by
  rfl
@[simp] theorem State.closeNodes_sites (s : State) (c : Chan) (p : List (Node × Line)) : (s.closeNodes c p).sites = s.sites := by
  rfl
@[simp] theorem State.closeNodes_disp (s : State) (c : Chan) (p : List (Node × Line)) : (s.closeNodes c p).disp = s.disp := by
  rfl
@[simp] theorem State.closeNodes_chans (s : State) (c : Chan) (p : List (Node × Line)) : (s.closeNodes c p).chans = s.chans := by
  rfl
@[simp] theorem State.closeNodes_results (s : State) (c : Chan) (p : List (Node × Line)) : (s.closeNodes c p).results = s.results := by
  rfl
@[simp] theorem State.closeNodes_counters (s : State) (c : Chan) (p : List (Node × Line)) : (s.closeNodes c p).counters = s.counters := by
  rfl
@[simp] theorem State.closeNodes_run (s : State) (c : Chan) (p : List (Node × Line)) : (s.closeNodes c p).run = s.run := by
  rfl
@[simp] theorem State.closeNodes_link (s : State) (c : Chan) (p : List (Node × Line)) : (s.closeNodes c p).link = s.link := by
  rfl
@[simp] theorem State.closeNodes_pending (s : State) (c : Chan) (p : List (Node × Line)) : (s.closeNodes c p).pending = s.pending := by
  rfl
@[simp] theorem State.closeNodes_relays_tOp (s : State) (c : Chan) (p : List (Node × Line)) : (s.closeNodes c p).relays.tOp = s.relays.tOp := by
  rfl
@[simp] theorem State.closeNodes_relays_tRel (s : State) (c : Chan) (p : List (Node × Line)) : (s.closeNodes c p).relays.tRel = s.relays.tRel := by
  rfl

@[simp] theorem State.closePhase_time (s : State) (c : Chan) : (s.closePhase c).time = s.time := by
  unfold State.closePhase; (repeat' split) <;> simp
@[simp] theorem State.closePhase_tickTaken (s : State) (c : Chan) : (s.closePhase c).tickTaken = s.tickTaken := by
  unfold State.closePhase; (repeat' split) <;> simp
@[simp] theorem State.closePhase_results (s : State) (c : Chan) : (s.closePhase c).results = s.results := by
  unfold State.closePhase; (repeat' split) <;> simp
@[simp] theorem State.closePhase_pending (s : State) (c : Chan) : (s.closePhase c).pending = s.pending := by
  unfold State.closePhase; (repeat' split) <;> simp
@[simp] theorem State.closePhase_link_receiver (s : State) (c : Chan) : (s.closePhase c).link.receiver = s.link.receiver := by
  unfold State.closePhase; (repeat' split) <;> simp
@[simp] theorem State.closePhase_link_slot (s : State) (c : Chan) : (s.closePhase c).link.slot = s.link.slot := by
  unfold State.closePhase; (repeat' split) <;> simp
@[simp] theorem State.closePhase_link_fault (s : State) (c : Chan) : (s.closePhase c).link.fault = s.link.fault := by
  unfold State.closePhase; (repeat' split) <;> simp
@[simp] theorem State.closePhase_link_errorCount (s : State) (c : Chan) : (s.closePhase c).link.errorCount = s.link.errorCount := by
  unfold State.closePhase; (repeat' split) <;> simp
@[simp] theorem State.closePhase_link_sending (s : State) (c : Chan) : (s.closePhase c).link.sending = s.link.sending := by
  unfold State.closePhase; (repeat' split) <;> simp
@[simp] theorem State.closePhase_link_waiting (s : State) (c : Chan) : (s.closePhase c).link.waiting = s.link.waiting := by
  unfold State.closePhase; (repeat' split) <;> simp
@[simp] theorem State.closePhase_link_enableMask (s : State) (c : Chan) : (s.closePhase c).link.enableMask = s.link.enableMask := by
  unfold State.closePhase; (repeat' split) <;> simp
@[simp] theorem State.closePhase_link_watermark (s : State) (c : Chan) : (s.closePhase c).link.watermark = s.link.watermark := by
  unfold State.closePhase; (repeat' split) <;> simp
@[simp] theorem State.closePhase_disp_fetch (s : State) (c : Chan) : (s.closePhase c).disp.fetch = s.disp.fetch := by
  unfold State.closePhase; (repeat' split) <;> simp
@[simp] theorem State.closePhase_disp_paused (s : State) (c : Chan) : (s.closePhase c).disp.paused = s.disp.paused := by
  unfold State.closePhase; (repeat' split) <;> simp
@[simp] theorem State.closePhase_disp_starved (s : State) (c : Chan) : (s.closePhase c).disp.starved = s.disp.starved := by
  unfold State.closePhase; (repeat' split) <;> simp
@[simp] theorem State.closePhase_run_state (s : State) (c : Chan) : (s.closePhase c).run.state = s.run.state := by
  unfold State.closePhase; (repeat' split) <;> simp
@[simp] theorem State.closePhase_run_enabled (s : State) (c : Chan) : (s.closePhase c).run.enabled = s.run.enabled := by
  unfold State.closePhase; (repeat' split) <;> simp
@[simp] theorem State.closePhase_run_vac (s : State) (c : Chan) : (s.closePhase c).run.vac = s.run.vac := by
  unfold State.closePhase; (repeat' split) <;> simp
@[simp] theorem State.closePhase_run_lid (s : State) (c : Chan) : (s.closePhase c).run.lid = s.run.lid := by
  unfold State.closePhase; (repeat' split) <;> simp
@[simp] theorem State.closePhase_run_outputs (s : State) (c : Chan) : (s.closePhase c).run.outputs = s.run.outputs := by
  unfold State.closePhase; (repeat' split) <;> simp
@[simp] theorem State.closePhase_relays_tOp (s : State) (c : Chan) : (s.closePhase c).relays.tOp = s.relays.tOp := by
  unfold State.closePhase; (repeat' split) <;> simp
@[simp] theorem State.closePhase_relays_tRel (s : State) (c : Chan) : (s.closePhase c).relays.tRel = s.relays.tRel := by
  unfold State.closePhase; (repeat' split) <;> simp
@[simp] theorem State.closePhase_sites_count (s : State) (c : Chan) : (s.closePhase c).sites.count = s.sites.count := by
  unfold State.closePhase; (repeat' split) <;> simp

@[simp] theorem State.appendRecord_time (s : State) (r : ResultRecord) : (s.appendRecord r).time = s.time := by
  simp [State.appendRecord]
@[simp] theorem State.appendRecord_tickTaken (s : State) (r : ResultRecord) : (s.appendRecord r).tickTaken = s.tickTaken := by
  simp [State.appendRecord]
@[simp] theorem State.appendRecord_plan (s : State) (r : ResultRecord) : (s.appendRecord r).plan = s.plan := by
  simp [State.appendRecord]
@[simp] theorem State.appendRecord_sites (s : State) (r : ResultRecord) : (s.appendRecord r).sites = s.sites := by
  simp [State.appendRecord]
@[simp] theorem State.appendRecord_disp (s : State) (r : ResultRecord) : (s.appendRecord r).disp = s.disp := by
  simp [State.appendRecord]
@[simp] theorem State.appendRecord_relays (s : State) (r : ResultRecord) : (s.appendRecord r).relays = s.relays := by
  simp [State.appendRecord]
@[simp] theorem State.appendRecord_chans (s : State) (r : ResultRecord) : (s.appendRecord r).chans = s.chans := by
  simp [State.appendRecord]
@[simp] theorem State.appendRecord_counters (s : State) (r : ResultRecord) : (s.appendRecord r).counters = s.counters := by
  simp [State.appendRecord]
@[simp] theorem State.appendRecord_run (s : State) (r : ResultRecord) : (s.appendRecord r).run = s.run := by
  simp [State.appendRecord]
@[simp] theorem State.appendRecord_pending (s : State) (r : ResultRecord) : (s.appendRecord r).pending = s.pending := by
  simp [State.appendRecord]
@[simp] theorem State.appendRecord_link_receiver (s : State) (r : ResultRecord) : (s.appendRecord r).link.receiver = s.link.receiver := by
  simp [State.appendRecord]
@[simp] theorem State.appendRecord_link_slot (s : State) (r : ResultRecord) : (s.appendRecord r).link.slot = s.link.slot := by
  simp [State.appendRecord]
@[simp] theorem State.appendRecord_link_fault (s : State) (r : ResultRecord) : (s.appendRecord r).link.fault = s.link.fault := by
  simp [State.appendRecord]
@[simp] theorem State.appendRecord_link_errorCount (s : State) (r : ResultRecord) : (s.appendRecord r).link.errorCount = s.link.errorCount := by
  simp [State.appendRecord]
@[simp] theorem State.appendRecord_link_sending (s : State) (r : ResultRecord) : (s.appendRecord r).link.sending = s.link.sending := by
  simp [State.appendRecord]
@[simp] theorem State.appendRecord_link_waiting (s : State) (r : ResultRecord) : (s.appendRecord r).link.waiting = s.link.waiting := by
  simp [State.appendRecord]
@[simp] theorem State.appendRecord_link_enableMask (s : State) (r : ResultRecord) : (s.appendRecord r).link.enableMask = s.link.enableMask := by
  simp [State.appendRecord]
@[simp] theorem State.appendRecord_link_watermark (s : State) (r : ResultRecord) : (s.appendRecord r).link.watermark = s.link.watermark := by
  simp [State.appendRecord]

@[simp] theorem State.contactRetire_time (s : State) (i : Instance) (v : Verdict) : (s.contactRetire i v).time = s.time := by
  unfold State.contactRetire; (repeat' split) <;> simp
@[simp] theorem State.contactRetire_tickTaken (s : State) (i : Instance) (v : Verdict) : (s.contactRetire i v).tickTaken = s.tickTaken := by
  unfold State.contactRetire; (repeat' split) <;> simp
@[simp] theorem State.contactRetire_relays (s : State) (i : Instance) (v : Verdict) : (s.contactRetire i v).relays = s.relays := by
  unfold State.contactRetire; (repeat' split) <;> simp
@[simp] theorem State.contactRetire_chans (s : State) (i : Instance) (v : Verdict) : (s.contactRetire i v).chans = s.chans := by
  unfold State.contactRetire; (repeat' split) <;> simp
@[simp] theorem State.contactRetire_results (s : State) (i : Instance) (v : Verdict) : (s.contactRetire i v).results = s.results := by
  unfold State.contactRetire; (repeat' split) <;> simp
@[simp] theorem State.contactRetire_counters (s : State) (i : Instance) (v : Verdict) : (s.contactRetire i v).counters = s.counters := by
  unfold State.contactRetire; (repeat' split) <;> simp
@[simp] theorem State.contactRetire_run (s : State) (i : Instance) (v : Verdict) : (s.contactRetire i v).run = s.run := by
  unfold State.contactRetire; (repeat' split) <;> simp
@[simp] theorem State.contactRetire_pending (s : State) (i : Instance) (v : Verdict) : (s.contactRetire i v).pending = s.pending := by
  unfold State.contactRetire; (repeat' split) <;> simp
@[simp] theorem State.contactRetire_link_receiver (s : State) (i : Instance) (v : Verdict) : (s.contactRetire i v).link.receiver = s.link.receiver := by
  unfold State.contactRetire; (repeat' split) <;> simp
@[simp] theorem State.contactRetire_link_slot (s : State) (i : Instance) (v : Verdict) : (s.contactRetire i v).link.slot = s.link.slot := by
  unfold State.contactRetire; (repeat' split) <;> simp
@[simp] theorem State.contactRetire_link_fault (s : State) (i : Instance) (v : Verdict) : (s.contactRetire i v).link.fault = s.link.fault := by
  unfold State.contactRetire; (repeat' split) <;> simp
@[simp] theorem State.contactRetire_link_errorCount (s : State) (i : Instance) (v : Verdict) : (s.contactRetire i v).link.errorCount = s.link.errorCount := by
  unfold State.contactRetire; (repeat' split) <;> simp
@[simp] theorem State.contactRetire_link_sending (s : State) (i : Instance) (v : Verdict) : (s.contactRetire i v).link.sending = s.link.sending := by
  unfold State.contactRetire; (repeat' split) <;> simp
@[simp] theorem State.contactRetire_link_waiting (s : State) (i : Instance) (v : Verdict) : (s.contactRetire i v).link.waiting = s.link.waiting := by
  unfold State.contactRetire; (repeat' split) <;> simp
@[simp] theorem State.contactRetire_link_enableMask (s : State) (i : Instance) (v : Verdict) : (s.contactRetire i v).link.enableMask = s.link.enableMask := by
  unfold State.contactRetire; (repeat' split) <;> simp
@[simp] theorem State.contactRetire_link_watermark (s : State) (i : Instance) (v : Verdict) : (s.contactRetire i v).link.watermark = s.link.watermark := by
  unfold State.contactRetire; (repeat' split) <;> simp
@[simp] theorem State.contactRetire_disp_fetch (s : State) (i : Instance) (v : Verdict) : (s.contactRetire i v).disp.fetch = s.disp.fetch := by
  unfold State.contactRetire; (repeat' split) <;> simp
@[simp] theorem State.contactRetire_disp_paused (s : State) (i : Instance) (v : Verdict) : (s.contactRetire i v).disp.paused = s.disp.paused := by
  unfold State.contactRetire; (repeat' split) <;> simp
@[simp] theorem State.contactRetire_disp_starved (s : State) (i : Instance) (v : Verdict) : (s.contactRetire i v).disp.starved = s.disp.starved := by
  unfold State.contactRetire; (repeat' split) <;> simp
@[simp] theorem State.contactRetire_sites_count (s : State) (i : Instance) (v : Verdict) : (s.contactRetire i v).sites.count = s.sites.count := by
  unfold State.contactRetire; (repeat' split) <;> simp

@[simp] theorem State.abortPost_time (s : State) (i : Instance) (r : ResultRecord) : (s.abortPost i r).time = s.time := by
  simp [State.abortPost]
@[simp] theorem State.abortPost_tickTaken (s : State) (i : Instance) (r : ResultRecord) : (s.abortPost i r).tickTaken = s.tickTaken := by
  simp [State.abortPost]
@[simp] theorem State.abortPost_relays (s : State) (i : Instance) (r : ResultRecord) : (s.abortPost i r).relays = s.relays := by
  simp [State.abortPost]
@[simp] theorem State.abortPost_chans (s : State) (i : Instance) (r : ResultRecord) : (s.abortPost i r).chans = s.chans := by
  simp [State.abortPost]
@[simp] theorem State.abortPost_pending (s : State) (i : Instance) (r : ResultRecord) : (s.abortPost i r).pending = s.pending := by
  simp [State.abortPost]
@[simp] theorem State.abortPost_link_receiver (s : State) (i : Instance) (r : ResultRecord) : (s.abortPost i r).link.receiver = s.link.receiver := by
  simp [State.abortPost]
@[simp] theorem State.abortPost_link_slot (s : State) (i : Instance) (r : ResultRecord) : (s.abortPost i r).link.slot = s.link.slot := by
  simp [State.abortPost]
@[simp] theorem State.abortPost_link_fault (s : State) (i : Instance) (r : ResultRecord) : (s.abortPost i r).link.fault = s.link.fault := by
  simp [State.abortPost]
@[simp] theorem State.abortPost_link_errorCount (s : State) (i : Instance) (r : ResultRecord) : (s.abortPost i r).link.errorCount = s.link.errorCount := by
  simp [State.abortPost]
@[simp] theorem State.abortPost_link_sending (s : State) (i : Instance) (r : ResultRecord) : (s.abortPost i r).link.sending = s.link.sending := by
  simp [State.abortPost]
@[simp] theorem State.abortPost_link_waiting (s : State) (i : Instance) (r : ResultRecord) : (s.abortPost i r).link.waiting = s.link.waiting := by
  simp [State.abortPost]
@[simp] theorem State.abortPost_link_enableMask (s : State) (i : Instance) (r : ResultRecord) : (s.abortPost i r).link.enableMask = s.link.enableMask := by
  simp [State.abortPost]
@[simp] theorem State.abortPost_link_watermark (s : State) (i : Instance) (r : ResultRecord) : (s.abortPost i r).link.watermark = s.link.watermark := by
  simp [State.abortPost]
@[simp] theorem State.abortPost_disp_fetch (s : State) (i : Instance) (r : ResultRecord) : (s.abortPost i r).disp.fetch = s.disp.fetch := by
  simp [State.abortPost]
@[simp] theorem State.abortPost_disp_paused (s : State) (i : Instance) (r : ResultRecord) : (s.abortPost i r).disp.paused = s.disp.paused := by
  simp [State.abortPost]
@[simp] theorem State.abortPost_disp_starved (s : State) (i : Instance) (r : ResultRecord) : (s.abortPost i r).disp.starved = s.disp.starved := by
  simp [State.abortPost]
@[simp] theorem State.abortPost_run_state (s : State) (i : Instance) (r : ResultRecord) : (s.abortPost i r).run.state = s.run.state := by
  simp [State.abortPost]
@[simp] theorem State.abortPost_run_enabled (s : State) (i : Instance) (r : ResultRecord) : (s.abortPost i r).run.enabled = s.run.enabled := by
  simp [State.abortPost]
@[simp] theorem State.abortPost_run_vac (s : State) (i : Instance) (r : ResultRecord) : (s.abortPost i r).run.vac = s.run.vac := by
  simp [State.abortPost]
@[simp] theorem State.abortPost_run_lid (s : State) (i : Instance) (r : ResultRecord) : (s.abortPost i r).run.lid = s.run.lid := by
  simp [State.abortPost]
@[simp] theorem State.abortPost_run_outputs (s : State) (i : Instance) (r : ResultRecord) : (s.abortPost i r).run.outputs = s.run.outputs := by
  simp [State.abortPost]
@[simp] theorem State.abortPost_sites_count (s : State) (i : Instance) (r : ResultRecord) : (s.abortPost i r).sites.count = s.sites.count := by
  simp [State.abortPost]

@[simp] theorem State.abortChannel_time (s : State) (c : Chan) : (s.abortChannel c).time = s.time := by
  unfold State.abortChannel; simp only; (repeat' split) <;> simp
@[simp] theorem State.abortChannel_tickTaken (s : State) (c : Chan) : (s.abortChannel c).tickTaken = s.tickTaken := by
  unfold State.abortChannel; simp only; (repeat' split) <;> simp
@[simp] theorem State.abortChannel_relays (s : State) (c : Chan) : (s.abortChannel c).relays = s.relays := by
  unfold State.abortChannel; simp only; (repeat' split) <;> simp
@[simp] theorem State.abortChannel_pending (s : State) (c : Chan) : (s.abortChannel c).pending = s.pending := by
  unfold State.abortChannel; simp only; (repeat' split) <;> simp
@[simp] theorem State.abortChannel_link_receiver (s : State) (c : Chan) : (s.abortChannel c).link.receiver = s.link.receiver := by
  unfold State.abortChannel; simp only; (repeat' split) <;> simp
@[simp] theorem State.abortChannel_link_slot (s : State) (c : Chan) : (s.abortChannel c).link.slot = s.link.slot := by
  unfold State.abortChannel; simp only; (repeat' split) <;> simp
@[simp] theorem State.abortChannel_link_fault (s : State) (c : Chan) : (s.abortChannel c).link.fault = s.link.fault := by
  unfold State.abortChannel; simp only; (repeat' split) <;> simp
@[simp] theorem State.abortChannel_link_errorCount (s : State) (c : Chan) : (s.abortChannel c).link.errorCount = s.link.errorCount := by
  unfold State.abortChannel; simp only; (repeat' split) <;> simp
@[simp] theorem State.abortChannel_link_sending (s : State) (c : Chan) : (s.abortChannel c).link.sending = s.link.sending := by
  unfold State.abortChannel; simp only; (repeat' split) <;> simp
@[simp] theorem State.abortChannel_link_waiting (s : State) (c : Chan) : (s.abortChannel c).link.waiting = s.link.waiting := by
  unfold State.abortChannel; simp only; (repeat' split) <;> simp
@[simp] theorem State.abortChannel_link_enableMask (s : State) (c : Chan) : (s.abortChannel c).link.enableMask = s.link.enableMask := by
  unfold State.abortChannel; simp only; (repeat' split) <;> simp
@[simp] theorem State.abortChannel_link_watermark (s : State) (c : Chan) : (s.abortChannel c).link.watermark = s.link.watermark := by
  unfold State.abortChannel; simp only; (repeat' split) <;> simp
@[simp] theorem State.abortChannel_disp_fetch (s : State) (c : Chan) : (s.abortChannel c).disp.fetch = s.disp.fetch := by
  unfold State.abortChannel; simp only; (repeat' split) <;> simp
@[simp] theorem State.abortChannel_disp_paused (s : State) (c : Chan) : (s.abortChannel c).disp.paused = s.disp.paused := by
  unfold State.abortChannel; simp only; (repeat' split) <;> simp
@[simp] theorem State.abortChannel_disp_starved (s : State) (c : Chan) : (s.abortChannel c).disp.starved = s.disp.starved := by
  unfold State.abortChannel; simp only; (repeat' split) <;> simp
@[simp] theorem State.abortChannel_run_state (s : State) (c : Chan) : (s.abortChannel c).run.state = s.run.state := by
  unfold State.abortChannel; simp only; (repeat' split) <;> simp
@[simp] theorem State.abortChannel_run_enabled (s : State) (c : Chan) : (s.abortChannel c).run.enabled = s.run.enabled := by
  unfold State.abortChannel; simp only; (repeat' split) <;> simp
@[simp] theorem State.abortChannel_run_vac (s : State) (c : Chan) : (s.abortChannel c).run.vac = s.run.vac := by
  unfold State.abortChannel; simp only; (repeat' split) <;> simp
@[simp] theorem State.abortChannel_run_lid (s : State) (c : Chan) : (s.abortChannel c).run.lid = s.run.lid := by
  unfold State.abortChannel; simp only; (repeat' split) <;> simp
@[simp] theorem State.abortChannel_run_outputs (s : State) (c : Chan) : (s.abortChannel c).run.outputs = s.run.outputs := by
  unfold State.abortChannel; simp only; (repeat' split) <;> simp
@[simp] theorem State.abortChannel_sites_count (s : State) (c : Chan) : (s.abortChannel c).sites.count = s.sites.count := by
  unfold State.abortChannel; simp only; (repeat' split) <;> simp

@[simp] theorem State.abortChannels_time (s : State) : (s.abortChannels).time = s.time := by
  exact (foldl_keep _ State.time (by simp) _ _).trans (by simp)
@[simp] theorem State.abortChannels_tickTaken (s : State) : (s.abortChannels).tickTaken = s.tickTaken := by
  exact (foldl_keep _ State.tickTaken (by simp) _ _).trans (by simp)
@[simp] theorem State.abortChannels_relays (s : State) : (s.abortChannels).relays = s.relays := by
  exact (foldl_keep _ State.relays (by simp) _ _).trans (by simp)
@[simp] theorem State.abortChannels_pending (s : State) : (s.abortChannels).pending = s.pending := by
  exact (foldl_keep _ State.pending (by simp) _ _).trans (by simp)
@[simp] theorem State.abortChannels_link_receiver (s : State) : (s.abortChannels).link.receiver = s.link.receiver := by
  exact (foldl_keep _ (fun t : State => t.link.receiver) (by simp) _ _).trans (by simp)
@[simp] theorem State.abortChannels_link_slot (s : State) : (s.abortChannels).link.slot = s.link.slot := by
  exact (foldl_keep _ (fun t : State => t.link.slot) (by simp) _ _).trans (by simp)
@[simp] theorem State.abortChannels_link_fault (s : State) : (s.abortChannels).link.fault = s.link.fault := by
  exact (foldl_keep _ (fun t : State => t.link.fault) (by simp) _ _).trans (by simp)
@[simp] theorem State.abortChannels_link_errorCount (s : State) : (s.abortChannels).link.errorCount = s.link.errorCount := by
  exact (foldl_keep _ (fun t : State => t.link.errorCount) (by simp) _ _).trans (by simp)
@[simp] theorem State.abortChannels_link_sending (s : State) : (s.abortChannels).link.sending = s.link.sending := by
  exact (foldl_keep _ (fun t : State => t.link.sending) (by simp) _ _).trans (by simp)
@[simp] theorem State.abortChannels_link_waiting (s : State) : (s.abortChannels).link.waiting = s.link.waiting := by
  exact (foldl_keep _ (fun t : State => t.link.waiting) (by simp) _ _).trans (by simp)
@[simp] theorem State.abortChannels_link_enableMask (s : State) : (s.abortChannels).link.enableMask = s.link.enableMask := by
  exact (foldl_keep _ (fun t : State => t.link.enableMask) (by simp) _ _).trans (by simp)
@[simp] theorem State.abortChannels_link_watermark (s : State) : (s.abortChannels).link.watermark = s.link.watermark := by
  exact (foldl_keep _ (fun t : State => t.link.watermark) (by simp) _ _).trans (by simp)
@[simp] theorem State.abortChannels_disp_fetch (s : State) : (s.abortChannels).disp.fetch = s.disp.fetch := by
  exact (foldl_keep _ (fun t : State => t.disp.fetch) (by simp) _ _).trans (by simp)
@[simp] theorem State.abortChannels_disp_paused (s : State) : (s.abortChannels).disp.paused = s.disp.paused := by
  exact (foldl_keep _ (fun t : State => t.disp.paused) (by simp) _ _).trans (by simp)
@[simp] theorem State.abortChannels_disp_starved (s : State) : (s.abortChannels).disp.starved = s.disp.starved := by
  exact (foldl_keep _ (fun t : State => t.disp.starved) (by simp) _ _).trans (by simp)
@[simp] theorem State.abortChannels_run_state (s : State) : (s.abortChannels).run.state = s.run.state := by
  exact (foldl_keep _ (fun t : State => t.run.state) (by simp) _ _).trans (by simp)
@[simp] theorem State.abortChannels_run_enabled (s : State) : (s.abortChannels).run.enabled = s.run.enabled := by
  exact (foldl_keep _ (fun t : State => t.run.enabled) (by simp) _ _).trans (by simp)
@[simp] theorem State.abortChannels_run_vac (s : State) : (s.abortChannels).run.vac = s.run.vac := by
  exact (foldl_keep _ (fun t : State => t.run.vac) (by simp) _ _).trans (by simp)
@[simp] theorem State.abortChannels_run_lid (s : State) : (s.abortChannels).run.lid = s.run.lid := by
  exact (foldl_keep _ (fun t : State => t.run.lid) (by simp) _ _).trans (by simp)
@[simp] theorem State.abortChannels_run_outputs (s : State) : (s.abortChannels).run.outputs = s.run.outputs := by
  exact (foldl_keep _ (fun t : State => t.run.outputs) (by simp) _ _).trans (by simp)
@[simp] theorem State.abortChannels_sites_count (s : State) : (s.abortChannels).sites.count = s.sites.count := by
  exact (foldl_keep _ (fun t : State => t.sites.count) (by simp) _ _).trans (by simp)

@[simp] theorem State.markEntry_time (s : State) (k : BankId × Nat × Site) (w : Blocked) (l : List Node) : (s.markEntry k w l).time = s.time := by
  rfl
@[simp] theorem State.markEntry_tickTaken (s : State) (k : BankId × Nat × Site) (w : Blocked) (l : List Node) : (s.markEntry k w l).tickTaken = s.tickTaken := by
  rfl
@[simp] theorem State.markEntry_plan (s : State) (k : BankId × Nat × Site) (w : Blocked) (l : List Node) : (s.markEntry k w l).plan = s.plan := by
  rfl
@[simp] theorem State.markEntry_sites (s : State) (k : BankId × Nat × Site) (w : Blocked) (l : List Node) : (s.markEntry k w l).sites = s.sites := by
  rfl
@[simp] theorem State.markEntry_relays (s : State) (k : BankId × Nat × Site) (w : Blocked) (l : List Node) : (s.markEntry k w l).relays = s.relays := by
  rfl
@[simp] theorem State.markEntry_chans (s : State) (k : BankId × Nat × Site) (w : Blocked) (l : List Node) : (s.markEntry k w l).chans = s.chans := by
  rfl
@[simp] theorem State.markEntry_results (s : State) (k : BankId × Nat × Site) (w : Blocked) (l : List Node) : (s.markEntry k w l).results = s.results := by
  rfl
@[simp] theorem State.markEntry_counters (s : State) (k : BankId × Nat × Site) (w : Blocked) (l : List Node) : (s.markEntry k w l).counters = s.counters := by
  rfl
@[simp] theorem State.markEntry_run (s : State) (k : BankId × Nat × Site) (w : Blocked) (l : List Node) : (s.markEntry k w l).run = s.run := by
  rfl
@[simp] theorem State.markEntry_link (s : State) (k : BankId × Nat × Site) (w : Blocked) (l : List Node) : (s.markEntry k w l).link = s.link := by
  rfl
@[simp] theorem State.markEntry_pending (s : State) (k : BankId × Nat × Site) (w : Blocked) (l : List Node) : (s.markEntry k w l).pending = s.pending := by
  rfl
@[simp] theorem State.markEntry_disp_fetch (s : State) (k : BankId × Nat × Site) (w : Blocked) (l : List Node) : (s.markEntry k w l).disp.fetch = s.disp.fetch := by
  rfl
@[simp] theorem State.markEntry_disp_paused (s : State) (k : BankId × Nat × Site) (w : Blocked) (l : List Node) : (s.markEntry k w l).disp.paused = s.disp.paused := by
  rfl
@[simp] theorem State.markEntry_disp_starved (s : State) (k : BankId × Nat × Site) (w : Blocked) (l : List Node) : (s.markEntry k w l).disp.starved = s.disp.starved := by
  rfl

@[simp] theorem State.recallFrom_time (s : State) (i : Instance) (c : Chan) : (State.recallFrom i s c).time = s.time := by
  simp [State.recallFrom]
@[simp] theorem State.recallFrom_tickTaken (s : State) (i : Instance) (c : Chan) : (State.recallFrom i s c).tickTaken = s.tickTaken := by
  simp [State.recallFrom]
@[simp] theorem State.recallFrom_chans (s : State) (i : Instance) (c : Chan) : (State.recallFrom i s c).chans = s.chans := by
  simp [State.recallFrom]
@[simp] theorem State.recallFrom_results (s : State) (i : Instance) (c : Chan) : (State.recallFrom i s c).results = s.results := by
  simp [State.recallFrom]
@[simp] theorem State.recallFrom_pending (s : State) (i : Instance) (c : Chan) : (State.recallFrom i s c).pending = s.pending := by
  simp [State.recallFrom]
@[simp] theorem State.recallFrom_link_receiver (s : State) (i : Instance) (c : Chan) : (State.recallFrom i s c).link.receiver = s.link.receiver := by
  simp [State.recallFrom]
@[simp] theorem State.recallFrom_link_slot (s : State) (i : Instance) (c : Chan) : (State.recallFrom i s c).link.slot = s.link.slot := by
  simp [State.recallFrom]
@[simp] theorem State.recallFrom_link_fault (s : State) (i : Instance) (c : Chan) : (State.recallFrom i s c).link.fault = s.link.fault := by
  simp [State.recallFrom]
@[simp] theorem State.recallFrom_link_errorCount (s : State) (i : Instance) (c : Chan) : (State.recallFrom i s c).link.errorCount = s.link.errorCount := by
  simp [State.recallFrom]
@[simp] theorem State.recallFrom_link_sending (s : State) (i : Instance) (c : Chan) : (State.recallFrom i s c).link.sending = s.link.sending := by
  simp [State.recallFrom]
@[simp] theorem State.recallFrom_link_waiting (s : State) (i : Instance) (c : Chan) : (State.recallFrom i s c).link.waiting = s.link.waiting := by
  simp [State.recallFrom]
@[simp] theorem State.recallFrom_link_enableMask (s : State) (i : Instance) (c : Chan) : (State.recallFrom i s c).link.enableMask = s.link.enableMask := by
  simp [State.recallFrom]
@[simp] theorem State.recallFrom_link_watermark (s : State) (i : Instance) (c : Chan) : (State.recallFrom i s c).link.watermark = s.link.watermark := by
  simp [State.recallFrom]
@[simp] theorem State.recallFrom_disp_fetch (s : State) (i : Instance) (c : Chan) : (State.recallFrom i s c).disp.fetch = s.disp.fetch := by
  simp [State.recallFrom]
@[simp] theorem State.recallFrom_disp_paused (s : State) (i : Instance) (c : Chan) : (State.recallFrom i s c).disp.paused = s.disp.paused := by
  simp [State.recallFrom]
@[simp] theorem State.recallFrom_disp_starved (s : State) (i : Instance) (c : Chan) : (State.recallFrom i s c).disp.starved = s.disp.starved := by
  simp [State.recallFrom]
@[simp] theorem State.recallFrom_run_state (s : State) (i : Instance) (c : Chan) : (State.recallFrom i s c).run.state = s.run.state := by
  simp [State.recallFrom]
@[simp] theorem State.recallFrom_run_enabled (s : State) (i : Instance) (c : Chan) : (State.recallFrom i s c).run.enabled = s.run.enabled := by
  simp [State.recallFrom]
@[simp] theorem State.recallFrom_run_vac (s : State) (i : Instance) (c : Chan) : (State.recallFrom i s c).run.vac = s.run.vac := by
  simp [State.recallFrom]
@[simp] theorem State.recallFrom_run_lid (s : State) (i : Instance) (c : Chan) : (State.recallFrom i s c).run.lid = s.run.lid := by
  simp [State.recallFrom]
@[simp] theorem State.recallFrom_run_outputs (s : State) (i : Instance) (c : Chan) : (State.recallFrom i s c).run.outputs = s.run.outputs := by
  simp [State.recallFrom]
@[simp] theorem State.recallFrom_relays_tOp (s : State) (i : Instance) (c : Chan) : (State.recallFrom i s c).relays.tOp = s.relays.tOp := by
  simp [State.recallFrom]
@[simp] theorem State.recallFrom_relays_tRel (s : State) (i : Instance) (c : Chan) : (State.recallFrom i s c).relays.tRel = s.relays.tRel := by
  simp [State.recallFrom]
@[simp] theorem State.recallFrom_sites_count (s : State) (i : Instance) (c : Chan) : (State.recallFrom i s c).sites.count = s.sites.count := by
  simp [State.recallFrom]

@[simp] theorem State.issueRecall_time (s : State) (e : WindowEntry) (o : List Chan) : (s.issueRecall e o).time = s.time := by
  exact (foldl_keep _ State.time (by simp) _ _).trans (by simp)
@[simp] theorem State.issueRecall_tickTaken (s : State) (e : WindowEntry) (o : List Chan) : (s.issueRecall e o).tickTaken = s.tickTaken := by
  exact (foldl_keep _ State.tickTaken (by simp) _ _).trans (by simp)
@[simp] theorem State.issueRecall_chans (s : State) (e : WindowEntry) (o : List Chan) : (s.issueRecall e o).chans = s.chans := by
  exact (foldl_keep _ State.chans (by simp) _ _).trans (by simp)
@[simp] theorem State.issueRecall_results (s : State) (e : WindowEntry) (o : List Chan) : (s.issueRecall e o).results = s.results := by
  exact (foldl_keep _ State.results (by simp) _ _).trans (by simp)
@[simp] theorem State.issueRecall_pending (s : State) (e : WindowEntry) (o : List Chan) : (s.issueRecall e o).pending = s.pending := by
  exact (foldl_keep _ State.pending (by simp) _ _).trans (by simp)
@[simp] theorem State.issueRecall_link_receiver (s : State) (e : WindowEntry) (o : List Chan) : (s.issueRecall e o).link.receiver = s.link.receiver := by
  exact (foldl_keep _ (fun t : State => t.link.receiver) (by simp) _ _).trans (by simp)
@[simp] theorem State.issueRecall_link_slot (s : State) (e : WindowEntry) (o : List Chan) : (s.issueRecall e o).link.slot = s.link.slot := by
  exact (foldl_keep _ (fun t : State => t.link.slot) (by simp) _ _).trans (by simp)
@[simp] theorem State.issueRecall_link_fault (s : State) (e : WindowEntry) (o : List Chan) : (s.issueRecall e o).link.fault = s.link.fault := by
  exact (foldl_keep _ (fun t : State => t.link.fault) (by simp) _ _).trans (by simp)
@[simp] theorem State.issueRecall_link_errorCount (s : State) (e : WindowEntry) (o : List Chan) : (s.issueRecall e o).link.errorCount = s.link.errorCount := by
  exact (foldl_keep _ (fun t : State => t.link.errorCount) (by simp) _ _).trans (by simp)
@[simp] theorem State.issueRecall_link_sending (s : State) (e : WindowEntry) (o : List Chan) : (s.issueRecall e o).link.sending = s.link.sending := by
  exact (foldl_keep _ (fun t : State => t.link.sending) (by simp) _ _).trans (by simp)
@[simp] theorem State.issueRecall_link_waiting (s : State) (e : WindowEntry) (o : List Chan) : (s.issueRecall e o).link.waiting = s.link.waiting := by
  exact (foldl_keep _ (fun t : State => t.link.waiting) (by simp) _ _).trans (by simp)
@[simp] theorem State.issueRecall_link_enableMask (s : State) (e : WindowEntry) (o : List Chan) : (s.issueRecall e o).link.enableMask = s.link.enableMask := by
  exact (foldl_keep _ (fun t : State => t.link.enableMask) (by simp) _ _).trans (by simp)
@[simp] theorem State.issueRecall_link_watermark (s : State) (e : WindowEntry) (o : List Chan) : (s.issueRecall e o).link.watermark = s.link.watermark := by
  exact (foldl_keep _ (fun t : State => t.link.watermark) (by simp) _ _).trans (by simp)
@[simp] theorem State.issueRecall_disp_fetch (s : State) (e : WindowEntry) (o : List Chan) : (s.issueRecall e o).disp.fetch = s.disp.fetch := by
  exact (foldl_keep _ (fun t : State => t.disp.fetch) (by simp) _ _).trans (by simp)
@[simp] theorem State.issueRecall_disp_paused (s : State) (e : WindowEntry) (o : List Chan) : (s.issueRecall e o).disp.paused = s.disp.paused := by
  exact (foldl_keep _ (fun t : State => t.disp.paused) (by simp) _ _).trans (by simp)
@[simp] theorem State.issueRecall_disp_starved (s : State) (e : WindowEntry) (o : List Chan) : (s.issueRecall e o).disp.starved = s.disp.starved := by
  exact (foldl_keep _ (fun t : State => t.disp.starved) (by simp) _ _).trans (by simp)
@[simp] theorem State.issueRecall_run_state (s : State) (e : WindowEntry) (o : List Chan) : (s.issueRecall e o).run.state = s.run.state := by
  exact (foldl_keep _ (fun t : State => t.run.state) (by simp) _ _).trans (by simp)
@[simp] theorem State.issueRecall_run_enabled (s : State) (e : WindowEntry) (o : List Chan) : (s.issueRecall e o).run.enabled = s.run.enabled := by
  exact (foldl_keep _ (fun t : State => t.run.enabled) (by simp) _ _).trans (by simp)
@[simp] theorem State.issueRecall_run_vac (s : State) (e : WindowEntry) (o : List Chan) : (s.issueRecall e o).run.vac = s.run.vac := by
  exact (foldl_keep _ (fun t : State => t.run.vac) (by simp) _ _).trans (by simp)
@[simp] theorem State.issueRecall_run_lid (s : State) (e : WindowEntry) (o : List Chan) : (s.issueRecall e o).run.lid = s.run.lid := by
  exact (foldl_keep _ (fun t : State => t.run.lid) (by simp) _ _).trans (by simp)
@[simp] theorem State.issueRecall_run_outputs (s : State) (e : WindowEntry) (o : List Chan) : (s.issueRecall e o).run.outputs = s.run.outputs := by
  exact (foldl_keep _ (fun t : State => t.run.outputs) (by simp) _ _).trans (by simp)
@[simp] theorem State.issueRecall_relays_tOp (s : State) (e : WindowEntry) (o : List Chan) : (s.issueRecall e o).relays.tOp = s.relays.tOp := by
  exact (foldl_keep _ (fun t : State => t.relays.tOp) (by simp) _ _).trans (by simp)
@[simp] theorem State.issueRecall_relays_tRel (s : State) (e : WindowEntry) (o : List Chan) : (s.issueRecall e o).relays.tRel = s.relays.tRel := by
  exact (foldl_keep _ (fun t : State => t.relays.tRel) (by simp) _ _).trans (by simp)
@[simp] theorem State.issueRecall_sites_count (s : State) (e : WindowEntry) (o : List Chan) : (s.issueRecall e o).sites.count = s.sites.count := by
  exact (foldl_keep _ (fun t : State => t.sites.count) (by simp) _ _).trans (by simp)

@[simp] theorem State.connectFor_time (s : State) (c : Chan) (i : Instance) : (s.connectFor c i).time = s.time := by
  unfold State.connectFor; simp only; split <;> simp
@[simp] theorem State.connectFor_tickTaken (s : State) (c : Chan) (i : Instance) : (s.connectFor c i).tickTaken = s.tickTaken := by
  unfold State.connectFor; simp only; split <;> simp
@[simp] theorem State.connectFor_results (s : State) (c : Chan) (i : Instance) : (s.connectFor c i).results = s.results := by
  unfold State.connectFor; simp only; split <;> simp
@[simp] theorem State.connectFor_pending (s : State) (c : Chan) (i : Instance) : (s.connectFor c i).pending = s.pending := by
  unfold State.connectFor; simp only; split <;> simp
@[simp] theorem State.connectFor_link_receiver (s : State) (c : Chan) (i : Instance) : (s.connectFor c i).link.receiver = s.link.receiver := by
  unfold State.connectFor; simp only; split <;> simp
@[simp] theorem State.connectFor_link_slot (s : State) (c : Chan) (i : Instance) : (s.connectFor c i).link.slot = s.link.slot := by
  unfold State.connectFor; simp only; split <;> simp
@[simp] theorem State.connectFor_link_fault (s : State) (c : Chan) (i : Instance) : (s.connectFor c i).link.fault = s.link.fault := by
  unfold State.connectFor; simp only; split <;> simp
@[simp] theorem State.connectFor_link_errorCount (s : State) (c : Chan) (i : Instance) : (s.connectFor c i).link.errorCount = s.link.errorCount := by
  unfold State.connectFor; simp only; split <;> simp
@[simp] theorem State.connectFor_link_sending (s : State) (c : Chan) (i : Instance) : (s.connectFor c i).link.sending = s.link.sending := by
  unfold State.connectFor; simp only; split <;> simp
@[simp] theorem State.connectFor_link_waiting (s : State) (c : Chan) (i : Instance) : (s.connectFor c i).link.waiting = s.link.waiting := by
  unfold State.connectFor; simp only; split <;> simp
@[simp] theorem State.connectFor_link_enableMask (s : State) (c : Chan) (i : Instance) : (s.connectFor c i).link.enableMask = s.link.enableMask := by
  unfold State.connectFor; simp only; split <;> simp
@[simp] theorem State.connectFor_link_watermark (s : State) (c : Chan) (i : Instance) : (s.connectFor c i).link.watermark = s.link.watermark := by
  unfold State.connectFor; simp only; split <;> simp
@[simp] theorem State.connectFor_disp_fetch (s : State) (c : Chan) (i : Instance) : (s.connectFor c i).disp.fetch = s.disp.fetch := by
  unfold State.connectFor; simp only; split <;> simp
@[simp] theorem State.connectFor_disp_paused (s : State) (c : Chan) (i : Instance) : (s.connectFor c i).disp.paused = s.disp.paused := by
  unfold State.connectFor; simp only; split <;> simp
@[simp] theorem State.connectFor_disp_starved (s : State) (c : Chan) (i : Instance) : (s.connectFor c i).disp.starved = s.disp.starved := by
  unfold State.connectFor; simp only; split <;> simp
@[simp] theorem State.connectFor_run_state (s : State) (c : Chan) (i : Instance) : (s.connectFor c i).run.state = s.run.state := by
  unfold State.connectFor; simp only; split <;> simp
@[simp] theorem State.connectFor_run_enabled (s : State) (c : Chan) (i : Instance) : (s.connectFor c i).run.enabled = s.run.enabled := by
  unfold State.connectFor; simp only; split <;> simp
@[simp] theorem State.connectFor_run_vac (s : State) (c : Chan) (i : Instance) : (s.connectFor c i).run.vac = s.run.vac := by
  unfold State.connectFor; simp only; split <;> simp
@[simp] theorem State.connectFor_run_lid (s : State) (c : Chan) (i : Instance) : (s.connectFor c i).run.lid = s.run.lid := by
  unfold State.connectFor; simp only; split <;> simp
@[simp] theorem State.connectFor_run_outputs (s : State) (c : Chan) (i : Instance) : (s.connectFor c i).run.outputs = s.run.outputs := by
  unfold State.connectFor; simp only; split <;> simp
@[simp] theorem State.connectFor_relays_tOp (s : State) (c : Chan) (i : Instance) : (s.connectFor c i).relays.tOp = s.relays.tOp := by
  unfold State.connectFor; simp only; split <;> simp
@[simp] theorem State.connectFor_relays_tRel (s : State) (c : Chan) (i : Instance) : (s.connectFor c i).relays.tRel = s.relays.tRel := by
  unfold State.connectFor; simp only; split <;> simp
@[simp] theorem State.connectFor_sites_count (s : State) (c : Chan) (i : Instance) : (s.connectFor c i).sites.count = s.sites.count := by
  unfold State.connectFor; simp only; split <;> simp

@[simp] theorem State.dispatchTo_time (s : State) (e : WindowEntry) (c : Chan) : (s.dispatchTo e c).time = s.time := by
  simp [State.dispatchTo]
@[simp] theorem State.dispatchTo_tickTaken (s : State) (e : WindowEntry) (c : Chan) : (s.dispatchTo e c).tickTaken = s.tickTaken := by
  simp [State.dispatchTo]
@[simp] theorem State.dispatchTo_results (s : State) (e : WindowEntry) (c : Chan) : (s.dispatchTo e c).results = s.results := by
  simp [State.dispatchTo]
@[simp] theorem State.dispatchTo_pending (s : State) (e : WindowEntry) (c : Chan) : (s.dispatchTo e c).pending = s.pending := by
  simp [State.dispatchTo]
@[simp] theorem State.dispatchTo_link_receiver (s : State) (e : WindowEntry) (c : Chan) : (s.dispatchTo e c).link.receiver = s.link.receiver := by
  simp [State.dispatchTo]
@[simp] theorem State.dispatchTo_link_slot (s : State) (e : WindowEntry) (c : Chan) : (s.dispatchTo e c).link.slot = s.link.slot := by
  simp [State.dispatchTo]
@[simp] theorem State.dispatchTo_link_fault (s : State) (e : WindowEntry) (c : Chan) : (s.dispatchTo e c).link.fault = s.link.fault := by
  simp [State.dispatchTo]
@[simp] theorem State.dispatchTo_link_errorCount (s : State) (e : WindowEntry) (c : Chan) : (s.dispatchTo e c).link.errorCount = s.link.errorCount := by
  simp [State.dispatchTo]
@[simp] theorem State.dispatchTo_link_sending (s : State) (e : WindowEntry) (c : Chan) : (s.dispatchTo e c).link.sending = s.link.sending := by
  simp [State.dispatchTo]
@[simp] theorem State.dispatchTo_link_waiting (s : State) (e : WindowEntry) (c : Chan) : (s.dispatchTo e c).link.waiting = s.link.waiting := by
  simp [State.dispatchTo]
@[simp] theorem State.dispatchTo_link_enableMask (s : State) (e : WindowEntry) (c : Chan) : (s.dispatchTo e c).link.enableMask = s.link.enableMask := by
  simp [State.dispatchTo]
@[simp] theorem State.dispatchTo_link_watermark (s : State) (e : WindowEntry) (c : Chan) : (s.dispatchTo e c).link.watermark = s.link.watermark := by
  simp [State.dispatchTo]
@[simp] theorem State.dispatchTo_disp_fetch (s : State) (e : WindowEntry) (c : Chan) : (s.dispatchTo e c).disp.fetch = s.disp.fetch := by
  simp [State.dispatchTo]
@[simp] theorem State.dispatchTo_disp_paused (s : State) (e : WindowEntry) (c : Chan) : (s.dispatchTo e c).disp.paused = s.disp.paused := by
  simp [State.dispatchTo]
@[simp] theorem State.dispatchTo_disp_starved (s : State) (e : WindowEntry) (c : Chan) : (s.dispatchTo e c).disp.starved = s.disp.starved := by
  simp [State.dispatchTo]
@[simp] theorem State.dispatchTo_run_state (s : State) (e : WindowEntry) (c : Chan) : (s.dispatchTo e c).run.state = s.run.state := by
  simp [State.dispatchTo]
@[simp] theorem State.dispatchTo_run_enabled (s : State) (e : WindowEntry) (c : Chan) : (s.dispatchTo e c).run.enabled = s.run.enabled := by
  simp [State.dispatchTo]
@[simp] theorem State.dispatchTo_run_vac (s : State) (e : WindowEntry) (c : Chan) : (s.dispatchTo e c).run.vac = s.run.vac := by
  simp [State.dispatchTo]
@[simp] theorem State.dispatchTo_run_lid (s : State) (e : WindowEntry) (c : Chan) : (s.dispatchTo e c).run.lid = s.run.lid := by
  simp [State.dispatchTo]
@[simp] theorem State.dispatchTo_run_outputs (s : State) (e : WindowEntry) (c : Chan) : (s.dispatchTo e c).run.outputs = s.run.outputs := by
  simp [State.dispatchTo]
@[simp] theorem State.dispatchTo_relays_tOp (s : State) (e : WindowEntry) (c : Chan) : (s.dispatchTo e c).relays.tOp = s.relays.tOp := by
  simp [State.dispatchTo]
@[simp] theorem State.dispatchTo_relays_tRel (s : State) (e : WindowEntry) (c : Chan) : (s.dispatchTo e c).relays.tRel = s.relays.tRel := by
  simp [State.dispatchTo]
@[simp] theorem State.dispatchTo_sites_count (s : State) (e : WindowEntry) (c : Chan) : (s.dispatchTo e c).sites.count = s.sites.count := by
  simp [State.dispatchTo]

@[simp] theorem State.examineEntry_time (s : State) (k : BankId × Nat × Site) : (s.examineEntry k).time = s.time := by
  unfold State.examineEntry; (repeat' split) <;> simp
@[simp] theorem State.examineEntry_tickTaken (s : State) (k : BankId × Nat × Site) : (s.examineEntry k).tickTaken = s.tickTaken := by
  unfold State.examineEntry; (repeat' split) <;> simp
@[simp] theorem State.examineEntry_results (s : State) (k : BankId × Nat × Site) : (s.examineEntry k).results = s.results := by
  unfold State.examineEntry; (repeat' split) <;> simp
@[simp] theorem State.examineEntry_pending (s : State) (k : BankId × Nat × Site) : (s.examineEntry k).pending = s.pending := by
  unfold State.examineEntry; (repeat' split) <;> simp
@[simp] theorem State.examineEntry_link_receiver (s : State) (k : BankId × Nat × Site) : (s.examineEntry k).link.receiver = s.link.receiver := by
  unfold State.examineEntry; (repeat' split) <;> simp
@[simp] theorem State.examineEntry_link_slot (s : State) (k : BankId × Nat × Site) : (s.examineEntry k).link.slot = s.link.slot := by
  unfold State.examineEntry; (repeat' split) <;> simp
@[simp] theorem State.examineEntry_link_fault (s : State) (k : BankId × Nat × Site) : (s.examineEntry k).link.fault = s.link.fault := by
  unfold State.examineEntry; (repeat' split) <;> simp
@[simp] theorem State.examineEntry_link_errorCount (s : State) (k : BankId × Nat × Site) : (s.examineEntry k).link.errorCount = s.link.errorCount := by
  unfold State.examineEntry; (repeat' split) <;> simp
@[simp] theorem State.examineEntry_link_sending (s : State) (k : BankId × Nat × Site) : (s.examineEntry k).link.sending = s.link.sending := by
  unfold State.examineEntry; (repeat' split) <;> simp
@[simp] theorem State.examineEntry_link_waiting (s : State) (k : BankId × Nat × Site) : (s.examineEntry k).link.waiting = s.link.waiting := by
  unfold State.examineEntry; (repeat' split) <;> simp
@[simp] theorem State.examineEntry_link_enableMask (s : State) (k : BankId × Nat × Site) : (s.examineEntry k).link.enableMask = s.link.enableMask := by
  unfold State.examineEntry; (repeat' split) <;> simp
@[simp] theorem State.examineEntry_link_watermark (s : State) (k : BankId × Nat × Site) : (s.examineEntry k).link.watermark = s.link.watermark := by
  unfold State.examineEntry; (repeat' split) <;> simp
@[simp] theorem State.examineEntry_disp_fetch (s : State) (k : BankId × Nat × Site) : (s.examineEntry k).disp.fetch = s.disp.fetch := by
  unfold State.examineEntry; (repeat' split) <;> simp
@[simp] theorem State.examineEntry_disp_paused (s : State) (k : BankId × Nat × Site) : (s.examineEntry k).disp.paused = s.disp.paused := by
  unfold State.examineEntry; (repeat' split) <;> simp
@[simp] theorem State.examineEntry_disp_starved (s : State) (k : BankId × Nat × Site) : (s.examineEntry k).disp.starved = s.disp.starved := by
  unfold State.examineEntry; (repeat' split) <;> simp
@[simp] theorem State.examineEntry_run_state (s : State) (k : BankId × Nat × Site) : (s.examineEntry k).run.state = s.run.state := by
  unfold State.examineEntry; (repeat' split) <;> simp
@[simp] theorem State.examineEntry_run_enabled (s : State) (k : BankId × Nat × Site) : (s.examineEntry k).run.enabled = s.run.enabled := by
  unfold State.examineEntry; (repeat' split) <;> simp
@[simp] theorem State.examineEntry_run_vac (s : State) (k : BankId × Nat × Site) : (s.examineEntry k).run.vac = s.run.vac := by
  unfold State.examineEntry; (repeat' split) <;> simp
@[simp] theorem State.examineEntry_run_lid (s : State) (k : BankId × Nat × Site) : (s.examineEntry k).run.lid = s.run.lid := by
  unfold State.examineEntry; (repeat' split) <;> simp
@[simp] theorem State.examineEntry_run_outputs (s : State) (k : BankId × Nat × Site) : (s.examineEntry k).run.outputs = s.run.outputs := by
  unfold State.examineEntry; (repeat' split) <;> simp
@[simp] theorem State.examineEntry_relays_tOp (s : State) (k : BankId × Nat × Site) : (s.examineEntry k).relays.tOp = s.relays.tOp := by
  unfold State.examineEntry; (repeat' split) <;> simp
@[simp] theorem State.examineEntry_relays_tRel (s : State) (k : BankId × Nat × Site) : (s.examineEntry k).relays.tRel = s.relays.tRel := by
  unfold State.examineEntry; (repeat' split) <;> simp
@[simp] theorem State.examineEntry_sites_count (s : State) (k : BankId × Nat × Site) : (s.examineEntry k).sites.count = s.sites.count := by
  unfold State.examineEntry; (repeat' split) <;> simp

@[simp] theorem State.walk_time (s : State) : (s.walk).time = s.time := by
  exact (foldl_keep _ State.time (by simp) _ _).trans (by simp)
@[simp] theorem State.walk_tickTaken (s : State) : (s.walk).tickTaken = s.tickTaken := by
  exact (foldl_keep _ State.tickTaken (by simp) _ _).trans (by simp)
@[simp] theorem State.walk_results (s : State) : (s.walk).results = s.results := by
  exact (foldl_keep _ State.results (by simp) _ _).trans (by simp)
@[simp] theorem State.walk_pending (s : State) : (s.walk).pending = s.pending := by
  exact (foldl_keep _ State.pending (by simp) _ _).trans (by simp)
@[simp] theorem State.walk_link_receiver (s : State) : (s.walk).link.receiver = s.link.receiver := by
  exact (foldl_keep _ (fun t : State => t.link.receiver) (by simp) _ _).trans (by simp)
@[simp] theorem State.walk_link_slot (s : State) : (s.walk).link.slot = s.link.slot := by
  exact (foldl_keep _ (fun t : State => t.link.slot) (by simp) _ _).trans (by simp)
@[simp] theorem State.walk_link_fault (s : State) : (s.walk).link.fault = s.link.fault := by
  exact (foldl_keep _ (fun t : State => t.link.fault) (by simp) _ _).trans (by simp)
@[simp] theorem State.walk_link_errorCount (s : State) : (s.walk).link.errorCount = s.link.errorCount := by
  exact (foldl_keep _ (fun t : State => t.link.errorCount) (by simp) _ _).trans (by simp)
@[simp] theorem State.walk_link_sending (s : State) : (s.walk).link.sending = s.link.sending := by
  exact (foldl_keep _ (fun t : State => t.link.sending) (by simp) _ _).trans (by simp)
@[simp] theorem State.walk_link_waiting (s : State) : (s.walk).link.waiting = s.link.waiting := by
  exact (foldl_keep _ (fun t : State => t.link.waiting) (by simp) _ _).trans (by simp)
@[simp] theorem State.walk_link_enableMask (s : State) : (s.walk).link.enableMask = s.link.enableMask := by
  exact (foldl_keep _ (fun t : State => t.link.enableMask) (by simp) _ _).trans (by simp)
@[simp] theorem State.walk_link_watermark (s : State) : (s.walk).link.watermark = s.link.watermark := by
  exact (foldl_keep _ (fun t : State => t.link.watermark) (by simp) _ _).trans (by simp)
@[simp] theorem State.walk_disp_fetch (s : State) : (s.walk).disp.fetch = s.disp.fetch := by
  exact (foldl_keep _ (fun t : State => t.disp.fetch) (by simp) _ _).trans (by simp)
@[simp] theorem State.walk_disp_paused (s : State) : (s.walk).disp.paused = s.disp.paused := by
  exact (foldl_keep _ (fun t : State => t.disp.paused) (by simp) _ _).trans (by simp)
@[simp] theorem State.walk_disp_starved (s : State) : (s.walk).disp.starved = s.disp.starved := by
  exact (foldl_keep _ (fun t : State => t.disp.starved) (by simp) _ _).trans (by simp)
@[simp] theorem State.walk_run_state (s : State) : (s.walk).run.state = s.run.state := by
  exact (foldl_keep _ (fun t : State => t.run.state) (by simp) _ _).trans (by simp)
@[simp] theorem State.walk_run_enabled (s : State) : (s.walk).run.enabled = s.run.enabled := by
  exact (foldl_keep _ (fun t : State => t.run.enabled) (by simp) _ _).trans (by simp)
@[simp] theorem State.walk_run_vac (s : State) : (s.walk).run.vac = s.run.vac := by
  exact (foldl_keep _ (fun t : State => t.run.vac) (by simp) _ _).trans (by simp)
@[simp] theorem State.walk_run_lid (s : State) : (s.walk).run.lid = s.run.lid := by
  exact (foldl_keep _ (fun t : State => t.run.lid) (by simp) _ _).trans (by simp)
@[simp] theorem State.walk_run_outputs (s : State) : (s.walk).run.outputs = s.run.outputs := by
  exact (foldl_keep _ (fun t : State => t.run.outputs) (by simp) _ _).trans (by simp)
@[simp] theorem State.walk_relays_tOp (s : State) : (s.walk).relays.tOp = s.relays.tOp := by
  exact (foldl_keep _ (fun t : State => t.relays.tOp) (by simp) _ _).trans (by simp)
@[simp] theorem State.walk_relays_tRel (s : State) : (s.walk).relays.tRel = s.relays.tRel := by
  exact (foldl_keep _ (fun t : State => t.relays.tRel) (by simp) _ _).trans (by simp)
@[simp] theorem State.walk_sites_count (s : State) : (s.walk).sites.count = s.sites.count := by
  exact (foldl_keep _ (fun t : State => t.sites.count) (by simp) _ _).trans (by simp)

end Sys2Proof.Machine
end

