-- ==== Sys2Proof/Laws/FramesRun.lean ====
section
/-! SUPPORT. What the halt, the close of an event, the fetch and the posts leave unchanged, one lemma for each field. -/

namespace Sys2Proof.Machine

@[simp] theorem State.halt_time (s : State) (w : HaltReason) : (s.halt w).time = s.time := by
  unfold State.halt; split <;> simp
@[simp] theorem State.halt_tickTaken (s : State) (w : HaltReason) : (s.halt w).tickTaken = s.tickTaken := by
  unfold State.halt; split <;> simp
@[simp] theorem State.halt_pending (s : State) (w : HaltReason) : (s.halt w).pending = s.pending := by
  unfold State.halt; split <;> simp
@[simp] theorem State.halt_link_receiver (s : State) (w : HaltReason) : (s.halt w).link.receiver = s.link.receiver := by
  unfold State.halt; split <;> simp
@[simp] theorem State.halt_link_slot (s : State) (w : HaltReason) : (s.halt w).link.slot = s.link.slot := by
  unfold State.halt; split <;> simp
@[simp] theorem State.halt_link_fault (s : State) (w : HaltReason) : (s.halt w).link.fault = s.link.fault := by
  unfold State.halt; split <;> simp
@[simp] theorem State.halt_link_errorCount (s : State) (w : HaltReason) : (s.halt w).link.errorCount = s.link.errorCount := by
  unfold State.halt; split <;> simp
@[simp] theorem State.halt_link_sending (s : State) (w : HaltReason) : (s.halt w).link.sending = s.link.sending := by
  unfold State.halt; split <;> simp
@[simp] theorem State.halt_link_waiting (s : State) (w : HaltReason) : (s.halt w).link.waiting = s.link.waiting := by
  unfold State.halt; split <;> simp
@[simp] theorem State.halt_link_enableMask (s : State) (w : HaltReason) : (s.halt w).link.enableMask = s.link.enableMask := by
  unfold State.halt; split <;> simp
@[simp] theorem State.halt_link_watermark (s : State) (w : HaltReason) : (s.halt w).link.watermark = s.link.watermark := by
  unfold State.halt; split <;> simp
@[simp] theorem State.halt_disp_paused (s : State) (w : HaltReason) : (s.halt w).disp.paused = s.disp.paused := by
  unfold State.halt; split <;> simp
@[simp] theorem State.halt_disp_starved (s : State) (w : HaltReason) : (s.halt w).disp.starved = s.disp.starved := by
  unfold State.halt; split <;> simp
@[simp] theorem State.halt_run_enabled (s : State) (w : HaltReason) : (s.halt w).run.enabled = s.run.enabled := by
  unfold State.halt; split <;> simp
@[simp] theorem State.halt_run_vac (s : State) (w : HaltReason) : (s.halt w).run.vac = s.run.vac := by
  unfold State.halt; split <;> simp
@[simp] theorem State.halt_run_lid (s : State) (w : HaltReason) : (s.halt w).run.lid = s.run.lid := by
  unfold State.halt; split <;> simp
@[simp] theorem State.halt_run_outputs (s : State) (w : HaltReason) : (s.halt w).run.outputs = s.run.outputs := by
  unfold State.halt; split <;> simp
@[simp] theorem State.halt_relays_tOp (s : State) (w : HaltReason) : (s.halt w).relays.tOp = s.relays.tOp := by
  unfold State.halt; split <;> simp
@[simp] theorem State.halt_relays_tRel (s : State) (w : HaltReason) : (s.halt w).relays.tRel = s.relays.tRel := by
  unfold State.halt; split <;> simp
@[simp] theorem State.halt_sites_count (s : State) (w : HaltReason) : (s.halt w).sites.count = s.sites.count := by
  unfold State.halt; split <;> simp

@[simp] theorem State.takeAskedHalt_time (s : State) : (s.takeAskedHalt).time = s.time := by
  unfold State.takeAskedHalt; split <;> simp
@[simp] theorem State.takeAskedHalt_tickTaken (s : State) : (s.takeAskedHalt).tickTaken = s.tickTaken := by
  unfold State.takeAskedHalt; split <;> simp
@[simp] theorem State.takeAskedHalt_pending (s : State) : (s.takeAskedHalt).pending = s.pending := by
  unfold State.takeAskedHalt; split <;> simp
@[simp] theorem State.takeAskedHalt_link_receiver (s : State) : (s.takeAskedHalt).link.receiver = s.link.receiver := by
  unfold State.takeAskedHalt; split <;> simp
@[simp] theorem State.takeAskedHalt_link_slot (s : State) : (s.takeAskedHalt).link.slot = s.link.slot := by
  unfold State.takeAskedHalt; split <;> simp
@[simp] theorem State.takeAskedHalt_link_fault (s : State) : (s.takeAskedHalt).link.fault = s.link.fault := by
  unfold State.takeAskedHalt; split <;> simp
@[simp] theorem State.takeAskedHalt_link_errorCount (s : State) : (s.takeAskedHalt).link.errorCount = s.link.errorCount := by
  unfold State.takeAskedHalt; split <;> simp
@[simp] theorem State.takeAskedHalt_link_sending (s : State) : (s.takeAskedHalt).link.sending = s.link.sending := by
  unfold State.takeAskedHalt; split <;> simp
@[simp] theorem State.takeAskedHalt_link_waiting (s : State) : (s.takeAskedHalt).link.waiting = s.link.waiting := by
  unfold State.takeAskedHalt; split <;> simp
@[simp] theorem State.takeAskedHalt_link_enableMask (s : State) : (s.takeAskedHalt).link.enableMask = s.link.enableMask := by
  unfold State.takeAskedHalt; split <;> simp
@[simp] theorem State.takeAskedHalt_link_watermark (s : State) : (s.takeAskedHalt).link.watermark = s.link.watermark := by
  unfold State.takeAskedHalt; split <;> simp
@[simp] theorem State.takeAskedHalt_disp_paused (s : State) : (s.takeAskedHalt).disp.paused = s.disp.paused := by
  unfold State.takeAskedHalt; split <;> simp
@[simp] theorem State.takeAskedHalt_disp_starved (s : State) : (s.takeAskedHalt).disp.starved = s.disp.starved := by
  unfold State.takeAskedHalt; split <;> simp
@[simp] theorem State.takeAskedHalt_run_enabled (s : State) : (s.takeAskedHalt).run.enabled = s.run.enabled := by
  unfold State.takeAskedHalt; split <;> simp
@[simp] theorem State.takeAskedHalt_run_vac (s : State) : (s.takeAskedHalt).run.vac = s.run.vac := by
  unfold State.takeAskedHalt; split <;> simp
@[simp] theorem State.takeAskedHalt_run_lid (s : State) : (s.takeAskedHalt).run.lid = s.run.lid := by
  unfold State.takeAskedHalt; split <;> simp
@[simp] theorem State.takeAskedHalt_run_outputs (s : State) : (s.takeAskedHalt).run.outputs = s.run.outputs := by
  unfold State.takeAskedHalt; split <;> simp
@[simp] theorem State.takeAskedHalt_relays_tOp (s : State) : (s.takeAskedHalt).relays.tOp = s.relays.tOp := by
  unfold State.takeAskedHalt; split <;> simp
@[simp] theorem State.takeAskedHalt_relays_tRel (s : State) : (s.takeAskedHalt).relays.tRel = s.relays.tRel := by
  unfold State.takeAskedHalt; split <;> simp
@[simp] theorem State.takeAskedHalt_sites_count (s : State) : (s.takeAskedHalt).sites.count = s.sites.count := by
  unfold State.takeAskedHalt; split <;> simp

@[simp] theorem examineLoop_time (n : Nat) (s : State) : (examineLoop n s).time = s.time := by
  induction n generalizing s with
  | zero => rfl
  | succ n ih =>
    unfold examineLoop
    split
    · rw [ih]; simp
    · rfl
@[simp] theorem examineLoop_tickTaken (n : Nat) (s : State) : (examineLoop n s).tickTaken = s.tickTaken := by
  induction n generalizing s with
  | zero => rfl
  | succ n ih =>
    unfold examineLoop
    split
    · rw [ih]; simp
    · rfl
@[simp] theorem examineLoop_pending (n : Nat) (s : State) : (examineLoop n s).pending = s.pending := by
  induction n generalizing s with
  | zero => rfl
  | succ n ih =>
    unfold examineLoop
    split
    · rw [ih]; simp
    · rfl
@[simp] theorem examineLoop_link_receiver (n : Nat) (s : State) : (examineLoop n s).link.receiver = s.link.receiver := by
  induction n generalizing s with
  | zero => rfl
  | succ n ih =>
    unfold examineLoop
    split
    · rw [ih]; simp
    · rfl
@[simp] theorem examineLoop_link_slot (n : Nat) (s : State) : (examineLoop n s).link.slot = s.link.slot := by
  induction n generalizing s with
  | zero => rfl
  | succ n ih =>
    unfold examineLoop
    split
    · rw [ih]; simp
    · rfl
@[simp] theorem examineLoop_link_fault (n : Nat) (s : State) : (examineLoop n s).link.fault = s.link.fault := by
  induction n generalizing s with
  | zero => rfl
  | succ n ih =>
    unfold examineLoop
    split
    · rw [ih]; simp
    · rfl
@[simp] theorem examineLoop_link_errorCount (n : Nat) (s : State) : (examineLoop n s).link.errorCount = s.link.errorCount := by
  induction n generalizing s with
  | zero => rfl
  | succ n ih =>
    unfold examineLoop
    split
    · rw [ih]; simp
    · rfl
@[simp] theorem examineLoop_link_sending (n : Nat) (s : State) : (examineLoop n s).link.sending = s.link.sending := by
  induction n generalizing s with
  | zero => rfl
  | succ n ih =>
    unfold examineLoop
    split
    · rw [ih]; simp
    · rfl
@[simp] theorem examineLoop_link_waiting (n : Nat) (s : State) : (examineLoop n s).link.waiting = s.link.waiting := by
  induction n generalizing s with
  | zero => rfl
  | succ n ih =>
    unfold examineLoop
    split
    · rw [ih]; simp
    · rfl
@[simp] theorem examineLoop_link_enableMask (n : Nat) (s : State) : (examineLoop n s).link.enableMask = s.link.enableMask := by
  induction n generalizing s with
  | zero => rfl
  | succ n ih =>
    unfold examineLoop
    split
    · rw [ih]; simp
    · rfl
@[simp] theorem examineLoop_link_watermark (n : Nat) (s : State) : (examineLoop n s).link.watermark = s.link.watermark := by
  induction n generalizing s with
  | zero => rfl
  | succ n ih =>
    unfold examineLoop
    split
    · rw [ih]; simp
    · rfl
@[simp] theorem examineLoop_disp_paused (n : Nat) (s : State) : (examineLoop n s).disp.paused = s.disp.paused := by
  induction n generalizing s with
  | zero => rfl
  | succ n ih =>
    unfold examineLoop
    split
    · rw [ih]; simp
    · rfl
@[simp] theorem examineLoop_disp_starved (n : Nat) (s : State) : (examineLoop n s).disp.starved = s.disp.starved := by
  induction n generalizing s with
  | zero => rfl
  | succ n ih =>
    unfold examineLoop
    split
    · rw [ih]; simp
    · rfl
@[simp] theorem examineLoop_run_enabled (n : Nat) (s : State) : (examineLoop n s).run.enabled = s.run.enabled := by
  induction n generalizing s with
  | zero => rfl
  | succ n ih =>
    unfold examineLoop
    split
    · rw [ih]; simp
    · rfl
@[simp] theorem examineLoop_run_vac (n : Nat) (s : State) : (examineLoop n s).run.vac = s.run.vac := by
  induction n generalizing s with
  | zero => rfl
  | succ n ih =>
    unfold examineLoop
    split
    · rw [ih]; simp
    · rfl
@[simp] theorem examineLoop_run_lid (n : Nat) (s : State) : (examineLoop n s).run.lid = s.run.lid := by
  induction n generalizing s with
  | zero => rfl
  | succ n ih =>
    unfold examineLoop
    split
    · rw [ih]; simp
    · rfl
@[simp] theorem examineLoop_run_outputs (n : Nat) (s : State) : (examineLoop n s).run.outputs = s.run.outputs := by
  induction n generalizing s with
  | zero => rfl
  | succ n ih =>
    unfold examineLoop
    split
    · rw [ih]; simp
    · rfl
@[simp] theorem examineLoop_relays_tOp (n : Nat) (s : State) : (examineLoop n s).relays.tOp = s.relays.tOp := by
  induction n generalizing s with
  | zero => rfl
  | succ n ih =>
    unfold examineLoop
    split
    · rw [ih]; simp
    · rfl
@[simp] theorem examineLoop_relays_tRel (n : Nat) (s : State) : (examineLoop n s).relays.tRel = s.relays.tRel := by
  induction n generalizing s with
  | zero => rfl
  | succ n ih =>
    unfold examineLoop
    split
    · rw [ih]; simp
    · rfl
@[simp] theorem examineLoop_sites_count (n : Nat) (s : State) : (examineLoop n s).sites.count = s.sites.count := by
  induction n generalizing s with
  | zero => rfl
  | succ n ih =>
    unfold examineLoop
    split
    · rw [ih]; simp
    · rfl

@[simp] theorem State.examine_time (s : State) : (s.examine).time = s.time := by
  simp [State.examine]
@[simp] theorem State.examine_tickTaken (s : State) : (s.examine).tickTaken = s.tickTaken := by
  simp [State.examine]
@[simp] theorem State.examine_pending (s : State) : (s.examine).pending = s.pending := by
  simp [State.examine]
@[simp] theorem State.examine_link_receiver (s : State) : (s.examine).link.receiver = s.link.receiver := by
  simp [State.examine]
@[simp] theorem State.examine_link_slot (s : State) : (s.examine).link.slot = s.link.slot := by
  simp [State.examine]
@[simp] theorem State.examine_link_fault (s : State) : (s.examine).link.fault = s.link.fault := by
  simp [State.examine]
@[simp] theorem State.examine_link_errorCount (s : State) : (s.examine).link.errorCount = s.link.errorCount := by
  simp [State.examine]
@[simp] theorem State.examine_link_sending (s : State) : (s.examine).link.sending = s.link.sending := by
  simp [State.examine]
@[simp] theorem State.examine_link_waiting (s : State) : (s.examine).link.waiting = s.link.waiting := by
  simp [State.examine]
@[simp] theorem State.examine_link_enableMask (s : State) : (s.examine).link.enableMask = s.link.enableMask := by
  simp [State.examine]
@[simp] theorem State.examine_link_watermark (s : State) : (s.examine).link.watermark = s.link.watermark := by
  simp [State.examine]
@[simp] theorem State.examine_disp_paused (s : State) : (s.examine).disp.paused = s.disp.paused := by
  simp [State.examine]
@[simp] theorem State.examine_disp_starved (s : State) : (s.examine).disp.starved = s.disp.starved := by
  simp [State.examine]
@[simp] theorem State.examine_run_enabled (s : State) : (s.examine).run.enabled = s.run.enabled := by
  simp [State.examine]
@[simp] theorem State.examine_run_vac (s : State) : (s.examine).run.vac = s.run.vac := by
  simp [State.examine]
@[simp] theorem State.examine_run_lid (s : State) : (s.examine).run.lid = s.run.lid := by
  simp [State.examine]
@[simp] theorem State.examine_run_outputs (s : State) : (s.examine).run.outputs = s.run.outputs := by
  simp [State.examine]
@[simp] theorem State.examine_relays_tOp (s : State) : (s.examine).relays.tOp = s.relays.tOp := by
  simp [State.examine]
@[simp] theorem State.examine_relays_tRel (s : State) : (s.examine).relays.tRel = s.relays.tRel := by
  simp [State.examine]
@[simp] theorem State.examine_sites_count (s : State) : (s.examine).sites.count = s.sites.count := by
  simp [State.examine]

@[simp] theorem State.testDone_time (s : State) : (s.testDone).time = s.time := by
  unfold State.testDone; split <;> simp
@[simp] theorem State.testDone_tickTaken (s : State) : (s.testDone).tickTaken = s.tickTaken := by
  unfold State.testDone; split <;> simp
@[simp] theorem State.testDone_plan (s : State) : (s.testDone).plan = s.plan := by
  unfold State.testDone; split <;> simp
@[simp] theorem State.testDone_sites (s : State) : (s.testDone).sites = s.sites := by
  unfold State.testDone; split <;> simp
@[simp] theorem State.testDone_disp (s : State) : (s.testDone).disp = s.disp := by
  unfold State.testDone; split <;> simp
@[simp] theorem State.testDone_chans (s : State) : (s.testDone).chans = s.chans := by
  unfold State.testDone; split <;> simp
@[simp] theorem State.testDone_results (s : State) : (s.testDone).results = s.results := by
  unfold State.testDone; split <;> simp
@[simp] theorem State.testDone_counters (s : State) : (s.testDone).counters = s.counters := by
  unfold State.testDone; split <;> simp
@[simp] theorem State.testDone_pending (s : State) : (s.testDone).pending = s.pending := by
  unfold State.testDone; split <;> simp
@[simp] theorem State.testDone_link_receiver (s : State) : (s.testDone).link.receiver = s.link.receiver := by
  unfold State.testDone; split <;> simp
@[simp] theorem State.testDone_link_slot (s : State) : (s.testDone).link.slot = s.link.slot := by
  unfold State.testDone; split <;> simp
@[simp] theorem State.testDone_link_fault (s : State) : (s.testDone).link.fault = s.link.fault := by
  unfold State.testDone; split <;> simp
@[simp] theorem State.testDone_link_errorCount (s : State) : (s.testDone).link.errorCount = s.link.errorCount := by
  unfold State.testDone; split <;> simp
@[simp] theorem State.testDone_link_sending (s : State) : (s.testDone).link.sending = s.link.sending := by
  unfold State.testDone; split <;> simp
@[simp] theorem State.testDone_link_waiting (s : State) : (s.testDone).link.waiting = s.link.waiting := by
  unfold State.testDone; split <;> simp
@[simp] theorem State.testDone_link_enableMask (s : State) : (s.testDone).link.enableMask = s.link.enableMask := by
  unfold State.testDone; split <;> simp
@[simp] theorem State.testDone_link_watermark (s : State) : (s.testDone).link.watermark = s.link.watermark := by
  unfold State.testDone; split <;> simp
@[simp] theorem State.testDone_run_enabled (s : State) : (s.testDone).run.enabled = s.run.enabled := by
  unfold State.testDone; split <;> simp
@[simp] theorem State.testDone_run_vac (s : State) : (s.testDone).run.vac = s.run.vac := by
  unfold State.testDone; split <;> simp
@[simp] theorem State.testDone_run_lid (s : State) : (s.testDone).run.lid = s.run.lid := by
  unfold State.testDone; split <;> simp
@[simp] theorem State.testDone_run_outputs (s : State) : (s.testDone).run.outputs = s.run.outputs := by
  unfold State.testDone; split <;> simp
@[simp] theorem State.testDone_relays_tOp (s : State) : (s.testDone).relays.tOp = s.relays.tOp := by
  unfold State.testDone; split <;> simp
@[simp] theorem State.testDone_relays_tRel (s : State) : (s.testDone).relays.tRel = s.relays.tRel := by
  unfold State.testDone; split <;> simp

@[simp] theorem State.closeEvent_time (s : State) : (s.closeEvent).time = s.time := by
  simp [State.closeEvent]
@[simp] theorem State.closeEvent_tickTaken (s : State) : (s.closeEvent).tickTaken = s.tickTaken := by
  simp [State.closeEvent]
@[simp] theorem State.closeEvent_pending (s : State) : (s.closeEvent).pending = s.pending := by
  simp [State.closeEvent]
@[simp] theorem State.closeEvent_link_receiver (s : State) : (s.closeEvent).link.receiver = s.link.receiver := by
  simp [State.closeEvent]
@[simp] theorem State.closeEvent_link_slot (s : State) : (s.closeEvent).link.slot = s.link.slot := by
  simp [State.closeEvent]
@[simp] theorem State.closeEvent_link_fault (s : State) : (s.closeEvent).link.fault = s.link.fault := by
  simp [State.closeEvent]
@[simp] theorem State.closeEvent_link_errorCount (s : State) : (s.closeEvent).link.errorCount = s.link.errorCount := by
  simp [State.closeEvent]
@[simp] theorem State.closeEvent_link_sending (s : State) : (s.closeEvent).link.sending = s.link.sending := by
  simp [State.closeEvent]
@[simp] theorem State.closeEvent_link_waiting (s : State) : (s.closeEvent).link.waiting = s.link.waiting := by
  simp [State.closeEvent]
@[simp] theorem State.closeEvent_link_enableMask (s : State) : (s.closeEvent).link.enableMask = s.link.enableMask := by
  simp [State.closeEvent]
@[simp] theorem State.closeEvent_link_watermark (s : State) : (s.closeEvent).link.watermark = s.link.watermark := by
  simp [State.closeEvent]
@[simp] theorem State.closeEvent_disp_paused (s : State) : (s.closeEvent).disp.paused = s.disp.paused := by
  simp [State.closeEvent]
@[simp] theorem State.closeEvent_disp_starved (s : State) : (s.closeEvent).disp.starved = s.disp.starved := by
  simp [State.closeEvent]
@[simp] theorem State.closeEvent_run_enabled (s : State) : (s.closeEvent).run.enabled = s.run.enabled := by
  simp [State.closeEvent]
@[simp] theorem State.closeEvent_run_vac (s : State) : (s.closeEvent).run.vac = s.run.vac := by
  simp [State.closeEvent]
@[simp] theorem State.closeEvent_run_lid (s : State) : (s.closeEvent).run.lid = s.run.lid := by
  simp [State.closeEvent]
@[simp] theorem State.closeEvent_run_outputs (s : State) : (s.closeEvent).run.outputs = s.run.outputs := by
  simp [State.closeEvent]
@[simp] theorem State.closeEvent_relays_tOp (s : State) : (s.closeEvent).relays.tOp = s.relays.tOp := by
  simp [State.closeEvent]
@[simp] theorem State.closeEvent_relays_tRel (s : State) : (s.closeEvent).relays.tRel = s.relays.tRel := by
  simp [State.closeEvent]
@[simp] theorem State.closeEvent_sites_count (s : State) : (s.closeEvent).sites.count = s.sites.count := by
  simp [State.closeEvent]

@[simp] theorem State.withFetch_time (s : State) (f : Fetch) : (s.withFetch f).time = s.time := by
  rfl
@[simp] theorem State.withFetch_tickTaken (s : State) (f : Fetch) : (s.withFetch f).tickTaken = s.tickTaken := by
  rfl
@[simp] theorem State.withFetch_plan (s : State) (f : Fetch) : (s.withFetch f).plan = s.plan := by
  rfl
@[simp] theorem State.withFetch_sites (s : State) (f : Fetch) : (s.withFetch f).sites = s.sites := by
  rfl
@[simp] theorem State.withFetch_relays (s : State) (f : Fetch) : (s.withFetch f).relays = s.relays := by
  rfl
@[simp] theorem State.withFetch_chans (s : State) (f : Fetch) : (s.withFetch f).chans = s.chans := by
  rfl
@[simp] theorem State.withFetch_results (s : State) (f : Fetch) : (s.withFetch f).results = s.results := by
  rfl
@[simp] theorem State.withFetch_counters (s : State) (f : Fetch) : (s.withFetch f).counters = s.counters := by
  rfl
@[simp] theorem State.withFetch_run (s : State) (f : Fetch) : (s.withFetch f).run = s.run := by
  rfl
@[simp] theorem State.withFetch_link (s : State) (f : Fetch) : (s.withFetch f).link = s.link := by
  rfl
@[simp] theorem State.withFetch_pending (s : State) (f : Fetch) : (s.withFetch f).pending = s.pending := by
  rfl
@[simp] theorem State.withFetch_disp_paused (s : State) (f : Fetch) : (s.withFetch f).disp.paused = s.disp.paused := by
  rfl
@[simp] theorem State.withFetch_disp_starved (s : State) (f : Fetch) : (s.withFetch f).disp.starved = s.disp.starved := by
  rfl

@[simp] theorem State.appendInstance_time (s : State) (i : Instance) : (s.appendInstance i).time = s.time := by
  rfl
@[simp] theorem State.appendInstance_tickTaken (s : State) (i : Instance) : (s.appendInstance i).tickTaken = s.tickTaken := by
  rfl
@[simp] theorem State.appendInstance_sites (s : State) (i : Instance) : (s.appendInstance i).sites = s.sites := by
  rfl
@[simp] theorem State.appendInstance_relays (s : State) (i : Instance) : (s.appendInstance i).relays = s.relays := by
  rfl
@[simp] theorem State.appendInstance_chans (s : State) (i : Instance) : (s.appendInstance i).chans = s.chans := by
  rfl
@[simp] theorem State.appendInstance_results (s : State) (i : Instance) : (s.appendInstance i).results = s.results := by
  rfl
@[simp] theorem State.appendInstance_counters (s : State) (i : Instance) : (s.appendInstance i).counters = s.counters := by
  rfl
@[simp] theorem State.appendInstance_run (s : State) (i : Instance) : (s.appendInstance i).run = s.run := by
  rfl
@[simp] theorem State.appendInstance_link (s : State) (i : Instance) : (s.appendInstance i).link = s.link := by
  rfl
@[simp] theorem State.appendInstance_pending (s : State) (i : Instance) : (s.appendInstance i).pending = s.pending := by
  rfl
@[simp] theorem State.appendInstance_disp_fetch (s : State) (i : Instance) : (s.appendInstance i).disp.fetch = s.disp.fetch := by
  rfl
@[simp] theorem State.appendInstance_disp_paused (s : State) (i : Instance) : (s.appendInstance i).disp.paused = s.disp.paused := by
  rfl
@[simp] theorem State.appendInstance_disp_starved (s : State) (i : Instance) : (s.appendInstance i).disp.starved = s.disp.starved := by
  rfl

@[simp] theorem State.starve_time (s : State) (w : BankId) : (s.starve w).time = s.time := by
  simp [State.starve]
@[simp] theorem State.starve_tickTaken (s : State) (w : BankId) : (s.starve w).tickTaken = s.tickTaken := by
  simp [State.starve]
@[simp] theorem State.starve_plan (s : State) (w : BankId) : (s.starve w).plan = s.plan := by
  simp [State.starve]
@[simp] theorem State.starve_sites (s : State) (w : BankId) : (s.starve w).sites = s.sites := by
  simp [State.starve]
@[simp] theorem State.starve_relays (s : State) (w : BankId) : (s.starve w).relays = s.relays := by
  simp [State.starve]
@[simp] theorem State.starve_chans (s : State) (w : BankId) : (s.starve w).chans = s.chans := by
  simp [State.starve]
@[simp] theorem State.starve_results (s : State) (w : BankId) : (s.starve w).results = s.results := by
  simp [State.starve]
@[simp] theorem State.starve_counters (s : State) (w : BankId) : (s.starve w).counters = s.counters := by
  simp [State.starve]
@[simp] theorem State.starve_run (s : State) (w : BankId) : (s.starve w).run = s.run := by
  simp [State.starve]
@[simp] theorem State.starve_pending (s : State) (w : BankId) : (s.starve w).pending = s.pending := by
  simp [State.starve]
@[simp] theorem State.starve_link_receiver (s : State) (w : BankId) : (s.starve w).link.receiver = s.link.receiver := by
  simp [State.starve]
@[simp] theorem State.starve_link_slot (s : State) (w : BankId) : (s.starve w).link.slot = s.link.slot := by
  simp [State.starve]
@[simp] theorem State.starve_link_fault (s : State) (w : BankId) : (s.starve w).link.fault = s.link.fault := by
  simp [State.starve]
@[simp] theorem State.starve_link_errorCount (s : State) (w : BankId) : (s.starve w).link.errorCount = s.link.errorCount := by
  simp [State.starve]
@[simp] theorem State.starve_link_sending (s : State) (w : BankId) : (s.starve w).link.sending = s.link.sending := by
  simp [State.starve]
@[simp] theorem State.starve_link_waiting (s : State) (w : BankId) : (s.starve w).link.waiting = s.link.waiting := by
  simp [State.starve]
@[simp] theorem State.starve_link_enableMask (s : State) (w : BankId) : (s.starve w).link.enableMask = s.link.enableMask := by
  simp [State.starve]
@[simp] theorem State.starve_link_watermark (s : State) (w : BankId) : (s.starve w).link.watermark = s.link.watermark := by
  simp [State.starve]
@[simp] theorem State.starve_disp_paused (s : State) (w : BankId) : (s.starve w).disp.paused = s.disp.paused := by
  simp [State.starve]

@[simp] theorem State.drainBank_time (s : State) (w : BankId) : (s.drainBank w).time = s.time := by
  simp [State.drainBank]
@[simp] theorem State.drainBank_tickTaken (s : State) (w : BankId) : (s.drainBank w).tickTaken = s.tickTaken := by
  simp [State.drainBank]
@[simp] theorem State.drainBank_sites (s : State) (w : BankId) : (s.drainBank w).sites = s.sites := by
  simp [State.drainBank]
@[simp] theorem State.drainBank_disp (s : State) (w : BankId) : (s.drainBank w).disp = s.disp := by
  simp [State.drainBank]
@[simp] theorem State.drainBank_relays (s : State) (w : BankId) : (s.drainBank w).relays = s.relays := by
  simp [State.drainBank]
@[simp] theorem State.drainBank_chans (s : State) (w : BankId) : (s.drainBank w).chans = s.chans := by
  simp [State.drainBank]
@[simp] theorem State.drainBank_results (s : State) (w : BankId) : (s.drainBank w).results = s.results := by
  simp [State.drainBank]
@[simp] theorem State.drainBank_counters (s : State) (w : BankId) : (s.drainBank w).counters = s.counters := by
  simp [State.drainBank]
@[simp] theorem State.drainBank_run (s : State) (w : BankId) : (s.drainBank w).run = s.run := by
  simp [State.drainBank]
@[simp] theorem State.drainBank_pending (s : State) (w : BankId) : (s.drainBank w).pending = s.pending := by
  simp [State.drainBank]
@[simp] theorem State.drainBank_link_receiver (s : State) (w : BankId) : (s.drainBank w).link.receiver = s.link.receiver := by
  simp [State.drainBank]
@[simp] theorem State.drainBank_link_slot (s : State) (w : BankId) : (s.drainBank w).link.slot = s.link.slot := by
  simp [State.drainBank]
@[simp] theorem State.drainBank_link_fault (s : State) (w : BankId) : (s.drainBank w).link.fault = s.link.fault := by
  simp [State.drainBank]
@[simp] theorem State.drainBank_link_errorCount (s : State) (w : BankId) : (s.drainBank w).link.errorCount = s.link.errorCount := by
  simp [State.drainBank]
@[simp] theorem State.drainBank_link_sending (s : State) (w : BankId) : (s.drainBank w).link.sending = s.link.sending := by
  simp [State.drainBank]
@[simp] theorem State.drainBank_link_waiting (s : State) (w : BankId) : (s.drainBank w).link.waiting = s.link.waiting := by
  simp [State.drainBank]
@[simp] theorem State.drainBank_link_enableMask (s : State) (w : BankId) : (s.drainBank w).link.enableMask = s.link.enableMask := by
  simp [State.drainBank]
@[simp] theorem State.drainBank_link_watermark (s : State) (w : BankId) : (s.drainBank w).link.watermark = s.link.watermark := by
  simp [State.drainBank]

@[simp] theorem State.activate_time (s : State) (w : BankId) : (s.activate w).time = s.time := by
  simp [State.activate]
@[simp] theorem State.activate_tickTaken (s : State) (w : BankId) : (s.activate w).tickTaken = s.tickTaken := by
  simp [State.activate]
@[simp] theorem State.activate_sites (s : State) (w : BankId) : (s.activate w).sites = s.sites := by
  simp [State.activate]
@[simp] theorem State.activate_relays (s : State) (w : BankId) : (s.activate w).relays = s.relays := by
  simp [State.activate]
@[simp] theorem State.activate_chans (s : State) (w : BankId) : (s.activate w).chans = s.chans := by
  simp [State.activate]
@[simp] theorem State.activate_results (s : State) (w : BankId) : (s.activate w).results = s.results := by
  simp [State.activate]
@[simp] theorem State.activate_counters (s : State) (w : BankId) : (s.activate w).counters = s.counters := by
  simp [State.activate]
@[simp] theorem State.activate_run (s : State) (w : BankId) : (s.activate w).run = s.run := by
  simp [State.activate]
@[simp] theorem State.activate_link (s : State) (w : BankId) : (s.activate w).link = s.link := by
  simp [State.activate]
@[simp] theorem State.activate_pending (s : State) (w : BankId) : (s.activate w).pending = s.pending := by
  simp [State.activate]
@[simp] theorem State.activate_disp_paused (s : State) (w : BankId) : (s.activate w).disp.paused = s.disp.paused := by
  simp [State.activate]
@[simp] theorem State.activate_disp_starved (s : State) (w : BankId) : (s.activate w).disp.starved = s.disp.starved := by
  simp [State.activate]

@[simp] theorem State.passLast_time (s : State) (w : BankId) : (s.passLast w).time = s.time := by
  unfold State.passLast; split <;> simp
@[simp] theorem State.passLast_tickTaken (s : State) (w : BankId) : (s.passLast w).tickTaken = s.tickTaken := by
  unfold State.passLast; split <;> simp
@[simp] theorem State.passLast_sites (s : State) (w : BankId) : (s.passLast w).sites = s.sites := by
  unfold State.passLast; split <;> simp
@[simp] theorem State.passLast_relays (s : State) (w : BankId) : (s.passLast w).relays = s.relays := by
  unfold State.passLast; split <;> simp
@[simp] theorem State.passLast_chans (s : State) (w : BankId) : (s.passLast w).chans = s.chans := by
  unfold State.passLast; split <;> simp
@[simp] theorem State.passLast_results (s : State) (w : BankId) : (s.passLast w).results = s.results := by
  unfold State.passLast; split <;> simp
@[simp] theorem State.passLast_counters (s : State) (w : BankId) : (s.passLast w).counters = s.counters := by
  unfold State.passLast; split <;> simp
@[simp] theorem State.passLast_run (s : State) (w : BankId) : (s.passLast w).run = s.run := by
  unfold State.passLast; split <;> simp
@[simp] theorem State.passLast_pending (s : State) (w : BankId) : (s.passLast w).pending = s.pending := by
  unfold State.passLast; split <;> simp
@[simp] theorem State.passLast_link_receiver (s : State) (w : BankId) : (s.passLast w).link.receiver = s.link.receiver := by
  unfold State.passLast; split <;> simp
@[simp] theorem State.passLast_link_slot (s : State) (w : BankId) : (s.passLast w).link.slot = s.link.slot := by
  unfold State.passLast; split <;> simp
@[simp] theorem State.passLast_link_fault (s : State) (w : BankId) : (s.passLast w).link.fault = s.link.fault := by
  unfold State.passLast; split <;> simp
@[simp] theorem State.passLast_link_errorCount (s : State) (w : BankId) : (s.passLast w).link.errorCount = s.link.errorCount := by
  unfold State.passLast; split <;> simp
@[simp] theorem State.passLast_link_sending (s : State) (w : BankId) : (s.passLast w).link.sending = s.link.sending := by
  unfold State.passLast; split <;> simp
@[simp] theorem State.passLast_link_waiting (s : State) (w : BankId) : (s.passLast w).link.waiting = s.link.waiting := by
  unfold State.passLast; split <;> simp
@[simp] theorem State.passLast_link_enableMask (s : State) (w : BankId) : (s.passLast w).link.enableMask = s.link.enableMask := by
  unfold State.passLast; split <;> simp
@[simp] theorem State.passLast_link_watermark (s : State) (w : BankId) : (s.passLast w).link.watermark = s.link.watermark := by
  unfold State.passLast; split <;> simp
@[simp] theorem State.passLast_disp_paused (s : State) (w : BankId) : (s.passLast w).disp.paused = s.disp.paused := by
  unfold State.passLast; split <;> simp

@[simp] theorem State.passEnd_time (s : State) (w : BankId) : (s.passEnd w).time = s.time := by
  unfold State.passEnd; simp only; (repeat' split) <;> simp
@[simp] theorem State.passEnd_tickTaken (s : State) (w : BankId) : (s.passEnd w).tickTaken = s.tickTaken := by
  unfold State.passEnd; simp only; (repeat' split) <;> simp
@[simp] theorem State.passEnd_sites (s : State) (w : BankId) : (s.passEnd w).sites = s.sites := by
  unfold State.passEnd; simp only; (repeat' split) <;> simp
@[simp] theorem State.passEnd_relays (s : State) (w : BankId) : (s.passEnd w).relays = s.relays := by
  unfold State.passEnd; simp only; (repeat' split) <;> simp
@[simp] theorem State.passEnd_chans (s : State) (w : BankId) : (s.passEnd w).chans = s.chans := by
  unfold State.passEnd; simp only; (repeat' split) <;> simp
@[simp] theorem State.passEnd_results (s : State) (w : BankId) : (s.passEnd w).results = s.results := by
  unfold State.passEnd; simp only; (repeat' split) <;> simp
@[simp] theorem State.passEnd_counters (s : State) (w : BankId) : (s.passEnd w).counters = s.counters := by
  unfold State.passEnd; simp only; (repeat' split) <;> simp
@[simp] theorem State.passEnd_run (s : State) (w : BankId) : (s.passEnd w).run = s.run := by
  unfold State.passEnd; simp only; (repeat' split) <;> simp
@[simp] theorem State.passEnd_pending (s : State) (w : BankId) : (s.passEnd w).pending = s.pending := by
  unfold State.passEnd; simp only; (repeat' split) <;> simp
@[simp] theorem State.passEnd_link_receiver (s : State) (w : BankId) : (s.passEnd w).link.receiver = s.link.receiver := by
  unfold State.passEnd; simp only; (repeat' split) <;> simp
@[simp] theorem State.passEnd_link_slot (s : State) (w : BankId) : (s.passEnd w).link.slot = s.link.slot := by
  unfold State.passEnd; simp only; (repeat' split) <;> simp
@[simp] theorem State.passEnd_link_fault (s : State) (w : BankId) : (s.passEnd w).link.fault = s.link.fault := by
  unfold State.passEnd; simp only; (repeat' split) <;> simp
@[simp] theorem State.passEnd_link_errorCount (s : State) (w : BankId) : (s.passEnd w).link.errorCount = s.link.errorCount := by
  unfold State.passEnd; simp only; (repeat' split) <;> simp
@[simp] theorem State.passEnd_link_sending (s : State) (w : BankId) : (s.passEnd w).link.sending = s.link.sending := by
  unfold State.passEnd; simp only; (repeat' split) <;> simp
@[simp] theorem State.passEnd_link_waiting (s : State) (w : BankId) : (s.passEnd w).link.waiting = s.link.waiting := by
  unfold State.passEnd; simp only; (repeat' split) <;> simp
@[simp] theorem State.passEnd_link_enableMask (s : State) (w : BankId) : (s.passEnd w).link.enableMask = s.link.enableMask := by
  unfold State.passEnd; simp only; (repeat' split) <;> simp
@[simp] theorem State.passEnd_link_watermark (s : State) (w : BankId) : (s.passEnd w).link.watermark = s.link.watermark := by
  unfold State.passEnd; simp only; (repeat' split) <;> simp
@[simp] theorem State.passEnd_disp_paused (s : State) (w : BankId) : (s.passEnd w).disp.paused = s.disp.paused := by
  unfold State.passEnd; simp only; (repeat' split) <;> simp

@[simp] theorem State.enterBank_time (s : State) (w : BankId) : (s.enterBank w).time = s.time := by
  unfold State.enterBank; simp only; split <;> simp
@[simp] theorem State.enterBank_tickTaken (s : State) (w : BankId) : (s.enterBank w).tickTaken = s.tickTaken := by
  unfold State.enterBank; simp only; split <;> simp
@[simp] theorem State.enterBank_sites (s : State) (w : BankId) : (s.enterBank w).sites = s.sites := by
  unfold State.enterBank; simp only; split <;> simp
@[simp] theorem State.enterBank_relays (s : State) (w : BankId) : (s.enterBank w).relays = s.relays := by
  unfold State.enterBank; simp only; split <;> simp
@[simp] theorem State.enterBank_chans (s : State) (w : BankId) : (s.enterBank w).chans = s.chans := by
  unfold State.enterBank; simp only; split <;> simp
@[simp] theorem State.enterBank_results (s : State) (w : BankId) : (s.enterBank w).results = s.results := by
  unfold State.enterBank; simp only; split <;> simp
@[simp] theorem State.enterBank_counters (s : State) (w : BankId) : (s.enterBank w).counters = s.counters := by
  unfold State.enterBank; simp only; split <;> simp
@[simp] theorem State.enterBank_run (s : State) (w : BankId) : (s.enterBank w).run = s.run := by
  unfold State.enterBank; simp only; split <;> simp
@[simp] theorem State.enterBank_pending (s : State) (w : BankId) : (s.enterBank w).pending = s.pending := by
  unfold State.enterBank; simp only; split <;> simp
@[simp] theorem State.enterBank_link_receiver (s : State) (w : BankId) : (s.enterBank w).link.receiver = s.link.receiver := by
  unfold State.enterBank; simp only; split <;> simp
@[simp] theorem State.enterBank_link_slot (s : State) (w : BankId) : (s.enterBank w).link.slot = s.link.slot := by
  unfold State.enterBank; simp only; split <;> simp
@[simp] theorem State.enterBank_link_fault (s : State) (w : BankId) : (s.enterBank w).link.fault = s.link.fault := by
  unfold State.enterBank; simp only; split <;> simp
@[simp] theorem State.enterBank_link_errorCount (s : State) (w : BankId) : (s.enterBank w).link.errorCount = s.link.errorCount := by
  unfold State.enterBank; simp only; split <;> simp
@[simp] theorem State.enterBank_link_sending (s : State) (w : BankId) : (s.enterBank w).link.sending = s.link.sending := by
  unfold State.enterBank; simp only; split <;> simp
@[simp] theorem State.enterBank_link_waiting (s : State) (w : BankId) : (s.enterBank w).link.waiting = s.link.waiting := by
  unfold State.enterBank; simp only; split <;> simp
@[simp] theorem State.enterBank_link_enableMask (s : State) (w : BankId) : (s.enterBank w).link.enableMask = s.link.enableMask := by
  unfold State.enterBank; simp only; split <;> simp
@[simp] theorem State.enterBank_link_watermark (s : State) (w : BankId) : (s.enterBank w).link.watermark = s.link.watermark := by
  unfold State.enterBank; simp only; split <;> simp
@[simp] theorem State.enterBank_disp_paused (s : State) (w : BankId) : (s.enterBank w).disp.paused = s.disp.paused := by
  unfold State.enterBank; simp only; split <;> simp

@[simp] theorem scanSites_time (l : List (Fin 8)) (s : State) : ((scanSites l s).1).time = s.time := by
  induction l generalizing s with
  | nil => rfl
  | cons i l ih =>
    unfold scanSites
    cases s.siteState i <;> simp [ih]
@[simp] theorem scanSites_tickTaken (l : List (Fin 8)) (s : State) : ((scanSites l s).1).tickTaken = s.tickTaken := by
  induction l generalizing s with
  | nil => rfl
  | cons i l ih =>
    unfold scanSites
    cases s.siteState i <;> simp [ih]
@[simp] theorem scanSites_plan (l : List (Fin 8)) (s : State) : ((scanSites l s).1).plan = s.plan := by
  induction l generalizing s with
  | nil => rfl
  | cons i l ih =>
    unfold scanSites
    cases s.siteState i <;> simp [ih]
@[simp] theorem scanSites_disp (l : List (Fin 8)) (s : State) : ((scanSites l s).1).disp = s.disp := by
  induction l generalizing s with
  | nil => rfl
  | cons i l ih =>
    unfold scanSites
    cases s.siteState i <;> simp [ih]
@[simp] theorem scanSites_relays (l : List (Fin 8)) (s : State) : ((scanSites l s).1).relays = s.relays := by
  induction l generalizing s with
  | nil => rfl
  | cons i l ih =>
    unfold scanSites
    cases s.siteState i <;> simp [ih]
@[simp] theorem scanSites_chans (l : List (Fin 8)) (s : State) : ((scanSites l s).1).chans = s.chans := by
  induction l generalizing s with
  | nil => rfl
  | cons i l ih =>
    unfold scanSites
    cases s.siteState i <;> simp [ih]
@[simp] theorem scanSites_results (l : List (Fin 8)) (s : State) : ((scanSites l s).1).results = s.results := by
  induction l generalizing s with
  | nil => rfl
  | cons i l ih =>
    unfold scanSites
    cases s.siteState i <;> simp [ih]
@[simp] theorem scanSites_counters (l : List (Fin 8)) (s : State) : ((scanSites l s).1).counters = s.counters := by
  induction l generalizing s with
  | nil => rfl
  | cons i l ih =>
    unfold scanSites
    cases s.siteState i <;> simp [ih]
@[simp] theorem scanSites_run (l : List (Fin 8)) (s : State) : ((scanSites l s).1).run = s.run := by
  induction l generalizing s with
  | nil => rfl
  | cons i l ih =>
    unfold scanSites
    cases s.siteState i <;> simp [ih]
@[simp] theorem scanSites_link (l : List (Fin 8)) (s : State) : ((scanSites l s).1).link = s.link := by
  induction l generalizing s with
  | nil => rfl
  | cons i l ih =>
    unfold scanSites
    cases s.siteState i <;> simp [ih]
@[simp] theorem scanSites_pending (l : List (Fin 8)) (s : State) : ((scanSites l s).1).pending = s.pending := by
  induction l generalizing s with
  | nil => rfl
  | cons i l ih =>
    unfold scanSites
    cases s.siteState i <;> simp [ih]
@[simp] theorem scanSites_sites_count (l : List (Fin 8)) (s : State) : ((scanSites l s).1).sites.count = s.sites.count := by
  induction l generalizing s with
  | nil => rfl
  | cons i l ih =>
    unfold scanSites
    cases s.siteState i <;> simp [ih]

@[simp] theorem makeFrom_time (w : BankId) (l : List StepRecord) (j n : Nat) (s : State) :
    (makeFrom w l j n s).time = s.time := by
  induction l generalizing j n s with
  | nil => simp [makeFrom]
  | cons r l ih =>
    unfold makeFrom
    cases r.scope
    · simp only
      have h := scanSites_time (s.sitesFrom n) s
      split
      · rename_i t i ht
        rw [ht] at h
        simpa using h
      · rename_i t ht
        rw [ht] at h
        rw [ih]
        exact h
    · simp
@[simp] theorem makeFrom_tickTaken (w : BankId) (l : List StepRecord) (j n : Nat) (s : State) :
    (makeFrom w l j n s).tickTaken = s.tickTaken := by
  induction l generalizing j n s with
  | nil => simp [makeFrom]
  | cons r l ih =>
    unfold makeFrom
    cases r.scope
    · simp only
      have h := scanSites_tickTaken (s.sitesFrom n) s
      split
      · rename_i t i ht
        rw [ht] at h
        simpa using h
      · rename_i t ht
        rw [ht] at h
        rw [ih]
        exact h
    · simp
@[simp] theorem makeFrom_relays (w : BankId) (l : List StepRecord) (j n : Nat) (s : State) :
    (makeFrom w l j n s).relays = s.relays := by
  induction l generalizing j n s with
  | nil => simp [makeFrom]
  | cons r l ih =>
    unfold makeFrom
    cases r.scope
    · simp only
      have h := scanSites_relays (s.sitesFrom n) s
      split
      · rename_i t i ht
        rw [ht] at h
        simpa using h
      · rename_i t ht
        rw [ht] at h
        rw [ih]
        exact h
    · simp
@[simp] theorem makeFrom_chans (w : BankId) (l : List StepRecord) (j n : Nat) (s : State) :
    (makeFrom w l j n s).chans = s.chans := by
  induction l generalizing j n s with
  | nil => simp [makeFrom]
  | cons r l ih =>
    unfold makeFrom
    cases r.scope
    · simp only
      have h := scanSites_chans (s.sitesFrom n) s
      split
      · rename_i t i ht
        rw [ht] at h
        simpa using h
      · rename_i t ht
        rw [ht] at h
        rw [ih]
        exact h
    · simp
@[simp] theorem makeFrom_results (w : BankId) (l : List StepRecord) (j n : Nat) (s : State) :
    (makeFrom w l j n s).results = s.results := by
  induction l generalizing j n s with
  | nil => simp [makeFrom]
  | cons r l ih =>
    unfold makeFrom
    cases r.scope
    · simp only
      have h := scanSites_results (s.sitesFrom n) s
      split
      · rename_i t i ht
        rw [ht] at h
        simpa using h
      · rename_i t ht
        rw [ht] at h
        rw [ih]
        exact h
    · simp
@[simp] theorem makeFrom_counters (w : BankId) (l : List StepRecord) (j n : Nat) (s : State) :
    (makeFrom w l j n s).counters = s.counters := by
  induction l generalizing j n s with
  | nil => simp [makeFrom]
  | cons r l ih =>
    unfold makeFrom
    cases r.scope
    · simp only
      have h := scanSites_counters (s.sitesFrom n) s
      split
      · rename_i t i ht
        rw [ht] at h
        simpa using h
      · rename_i t ht
        rw [ht] at h
        rw [ih]
        exact h
    · simp
@[simp] theorem makeFrom_run (w : BankId) (l : List StepRecord) (j n : Nat) (s : State) :
    (makeFrom w l j n s).run = s.run := by
  induction l generalizing j n s with
  | nil => simp [makeFrom]
  | cons r l ih =>
    unfold makeFrom
    cases r.scope
    · simp only
      have h := scanSites_run (s.sitesFrom n) s
      split
      · rename_i t i ht
        rw [ht] at h
        simpa using h
      · rename_i t ht
        rw [ht] at h
        rw [ih]
        exact h
    · simp
@[simp] theorem makeFrom_pending (w : BankId) (l : List StepRecord) (j n : Nat) (s : State) :
    (makeFrom w l j n s).pending = s.pending := by
  induction l generalizing j n s with
  | nil => simp [makeFrom]
  | cons r l ih =>
    unfold makeFrom
    cases r.scope
    · simp only
      have h := scanSites_pending (s.sitesFrom n) s
      split
      · rename_i t i ht
        rw [ht] at h
        simpa using h
      · rename_i t ht
        rw [ht] at h
        rw [ih]
        exact h
    · simp
@[simp] theorem makeFrom_link_receiver (w : BankId) (l : List StepRecord) (j n : Nat) (s : State) :
    (makeFrom w l j n s).link.receiver = s.link.receiver := by
  induction l generalizing j n s with
  | nil => simp [makeFrom]
  | cons r l ih =>
    unfold makeFrom
    cases r.scope
    · simp only
      have h := scanSites_link (s.sitesFrom n) s
      split
      · rename_i t i ht
        rw [ht] at h
        simp only [] at h; simp [h]
      · rename_i t ht
        rw [ht] at h
        rw [ih]
        exact congrArg (·.receiver) h
    · simp
@[simp] theorem makeFrom_link_slot (w : BankId) (l : List StepRecord) (j n : Nat) (s : State) :
    (makeFrom w l j n s).link.slot = s.link.slot := by
  induction l generalizing j n s with
  | nil => simp [makeFrom]
  | cons r l ih =>
    unfold makeFrom
    cases r.scope
    · simp only
      have h := scanSites_link (s.sitesFrom n) s
      split
      · rename_i t i ht
        rw [ht] at h
        simp only [] at h; simp [h]
      · rename_i t ht
        rw [ht] at h
        rw [ih]
        exact congrArg (·.slot) h
    · simp
@[simp] theorem makeFrom_link_fault (w : BankId) (l : List StepRecord) (j n : Nat) (s : State) :
    (makeFrom w l j n s).link.fault = s.link.fault := by
  induction l generalizing j n s with
  | nil => simp [makeFrom]
  | cons r l ih =>
    unfold makeFrom
    cases r.scope
    · simp only
      have h := scanSites_link (s.sitesFrom n) s
      split
      · rename_i t i ht
        rw [ht] at h
        simp only [] at h; simp [h]
      · rename_i t ht
        rw [ht] at h
        rw [ih]
        exact congrArg (·.fault) h
    · simp
@[simp] theorem makeFrom_link_errorCount (w : BankId) (l : List StepRecord) (j n : Nat) (s : State) :
    (makeFrom w l j n s).link.errorCount = s.link.errorCount := by
  induction l generalizing j n s with
  | nil => simp [makeFrom]
  | cons r l ih =>
    unfold makeFrom
    cases r.scope
    · simp only
      have h := scanSites_link (s.sitesFrom n) s
      split
      · rename_i t i ht
        rw [ht] at h
        simp only [] at h; simp [h]
      · rename_i t ht
        rw [ht] at h
        rw [ih]
        exact congrArg (·.errorCount) h
    · simp
@[simp] theorem makeFrom_link_sending (w : BankId) (l : List StepRecord) (j n : Nat) (s : State) :
    (makeFrom w l j n s).link.sending = s.link.sending := by
  induction l generalizing j n s with
  | nil => simp [makeFrom]
  | cons r l ih =>
    unfold makeFrom
    cases r.scope
    · simp only
      have h := scanSites_link (s.sitesFrom n) s
      split
      · rename_i t i ht
        rw [ht] at h
        simp only [] at h; simp [h]
      · rename_i t ht
        rw [ht] at h
        rw [ih]
        exact congrArg (·.sending) h
    · simp
@[simp] theorem makeFrom_link_waiting (w : BankId) (l : List StepRecord) (j n : Nat) (s : State) :
    (makeFrom w l j n s).link.waiting = s.link.waiting := by
  induction l generalizing j n s with
  | nil => simp [makeFrom]
  | cons r l ih =>
    unfold makeFrom
    cases r.scope
    · simp only
      have h := scanSites_link (s.sitesFrom n) s
      split
      · rename_i t i ht
        rw [ht] at h
        simp only [] at h; simp [h]
      · rename_i t ht
        rw [ht] at h
        rw [ih]
        exact congrArg (·.waiting) h
    · simp
@[simp] theorem makeFrom_link_enableMask (w : BankId) (l : List StepRecord) (j n : Nat) (s : State) :
    (makeFrom w l j n s).link.enableMask = s.link.enableMask := by
  induction l generalizing j n s with
  | nil => simp [makeFrom]
  | cons r l ih =>
    unfold makeFrom
    cases r.scope
    · simp only
      have h := scanSites_link (s.sitesFrom n) s
      split
      · rename_i t i ht
        rw [ht] at h
        simp only [] at h; simp [h]
      · rename_i t ht
        rw [ht] at h
        rw [ih]
        exact congrArg (·.enableMask) h
    · simp
@[simp] theorem makeFrom_link_watermark (w : BankId) (l : List StepRecord) (j n : Nat) (s : State) :
    (makeFrom w l j n s).link.watermark = s.link.watermark := by
  induction l generalizing j n s with
  | nil => simp [makeFrom]
  | cons r l ih =>
    unfold makeFrom
    cases r.scope
    · simp only
      have h := scanSites_link (s.sitesFrom n) s
      split
      · rename_i t i ht
        rw [ht] at h
        simp only [] at h; simp [h]
      · rename_i t ht
        rw [ht] at h
        rw [ih]
        exact congrArg (·.watermark) h
    · simp
@[simp] theorem makeFrom_disp_paused (w : BankId) (l : List StepRecord) (j n : Nat) (s : State) :
    (makeFrom w l j n s).disp.paused = s.disp.paused := by
  induction l generalizing j n s with
  | nil => simp [makeFrom]
  | cons r l ih =>
    unfold makeFrom
    cases r.scope
    · simp only
      have h := scanSites_disp (s.sitesFrom n) s
      split
      · rename_i t i ht
        rw [ht] at h
        simp only [] at h; simp [h]
      · rename_i t ht
        rw [ht] at h
        rw [ih]
        exact congrArg (·.paused) h
    · simp
@[simp] theorem makeFrom_sites_count (w : BankId) (l : List StepRecord) (j n : Nat) (s : State) :
    (makeFrom w l j n s).sites.count = s.sites.count := by
  induction l generalizing j n s with
  | nil => simp [makeFrom]
  | cons r l ih =>
    unfold makeFrom
    cases r.scope
    · simp only
      have h := scanSites_sites_count (s.sitesFrom n) s
      split
      · rename_i t i ht
        rw [ht] at h
        simpa using h
      · rename_i t ht
        rw [ht] at h
        rw [ih]
        exact h
    · simp

@[simp] theorem State.fetchMake_time (s : State) : (s.fetchMake).time = s.time := by
  unfold State.fetchMake; split <;> simp
@[simp] theorem State.fetchMake_tickTaken (s : State) : (s.fetchMake).tickTaken = s.tickTaken := by
  unfold State.fetchMake; split <;> simp
@[simp] theorem State.fetchMake_relays (s : State) : (s.fetchMake).relays = s.relays := by
  unfold State.fetchMake; split <;> simp
@[simp] theorem State.fetchMake_chans (s : State) : (s.fetchMake).chans = s.chans := by
  unfold State.fetchMake; split <;> simp
@[simp] theorem State.fetchMake_results (s : State) : (s.fetchMake).results = s.results := by
  unfold State.fetchMake; split <;> simp
@[simp] theorem State.fetchMake_counters (s : State) : (s.fetchMake).counters = s.counters := by
  unfold State.fetchMake; split <;> simp
@[simp] theorem State.fetchMake_run (s : State) : (s.fetchMake).run = s.run := by
  unfold State.fetchMake; split <;> simp
@[simp] theorem State.fetchMake_pending (s : State) : (s.fetchMake).pending = s.pending := by
  unfold State.fetchMake; split <;> simp
@[simp] theorem State.fetchMake_link_receiver (s : State) : (s.fetchMake).link.receiver = s.link.receiver := by
  unfold State.fetchMake; split <;> simp
@[simp] theorem State.fetchMake_link_slot (s : State) : (s.fetchMake).link.slot = s.link.slot := by
  unfold State.fetchMake; split <;> simp
@[simp] theorem State.fetchMake_link_fault (s : State) : (s.fetchMake).link.fault = s.link.fault := by
  unfold State.fetchMake; split <;> simp
@[simp] theorem State.fetchMake_link_errorCount (s : State) : (s.fetchMake).link.errorCount = s.link.errorCount := by
  unfold State.fetchMake; split <;> simp
@[simp] theorem State.fetchMake_link_sending (s : State) : (s.fetchMake).link.sending = s.link.sending := by
  unfold State.fetchMake; split <;> simp
@[simp] theorem State.fetchMake_link_waiting (s : State) : (s.fetchMake).link.waiting = s.link.waiting := by
  unfold State.fetchMake; split <;> simp
@[simp] theorem State.fetchMake_link_enableMask (s : State) : (s.fetchMake).link.enableMask = s.link.enableMask := by
  unfold State.fetchMake; split <;> simp
@[simp] theorem State.fetchMake_link_watermark (s : State) : (s.fetchMake).link.watermark = s.link.watermark := by
  unfold State.fetchMake; split <;> simp
@[simp] theorem State.fetchMake_disp_paused (s : State) : (s.fetchMake).disp.paused = s.disp.paused := by
  unfold State.fetchMake; split <;> simp
@[simp] theorem State.fetchMake_sites_count (s : State) : (s.fetchMake).sites.count = s.sites.count := by
  unfold State.fetchMake; split <;> simp

@[simp] theorem fillLoop_time (n : Nat) (s : State) : (fillLoop n s).time = s.time := by
  induction n generalizing s with
  | zero => rfl
  | succ n ih =>
    unfold fillLoop
    split
    · rw [ih]; simp
    · rfl
@[simp] theorem fillLoop_tickTaken (n : Nat) (s : State) : (fillLoop n s).tickTaken = s.tickTaken := by
  induction n generalizing s with
  | zero => rfl
  | succ n ih =>
    unfold fillLoop
    split
    · rw [ih]; simp
    · rfl
@[simp] theorem fillLoop_pending (n : Nat) (s : State) : (fillLoop n s).pending = s.pending := by
  induction n generalizing s with
  | zero => rfl
  | succ n ih =>
    unfold fillLoop
    split
    · rw [ih]; simp
    · rfl
@[simp] theorem fillLoop_link_receiver (n : Nat) (s : State) : (fillLoop n s).link.receiver = s.link.receiver := by
  induction n generalizing s with
  | zero => rfl
  | succ n ih =>
    unfold fillLoop
    split
    · rw [ih]; simp
    · rfl
@[simp] theorem fillLoop_link_slot (n : Nat) (s : State) : (fillLoop n s).link.slot = s.link.slot := by
  induction n generalizing s with
  | zero => rfl
  | succ n ih =>
    unfold fillLoop
    split
    · rw [ih]; simp
    · rfl
@[simp] theorem fillLoop_link_fault (n : Nat) (s : State) : (fillLoop n s).link.fault = s.link.fault := by
  induction n generalizing s with
  | zero => rfl
  | succ n ih =>
    unfold fillLoop
    split
    · rw [ih]; simp
    · rfl
@[simp] theorem fillLoop_link_errorCount (n : Nat) (s : State) : (fillLoop n s).link.errorCount = s.link.errorCount := by
  induction n generalizing s with
  | zero => rfl
  | succ n ih =>
    unfold fillLoop
    split
    · rw [ih]; simp
    · rfl
@[simp] theorem fillLoop_link_sending (n : Nat) (s : State) : (fillLoop n s).link.sending = s.link.sending := by
  induction n generalizing s with
  | zero => rfl
  | succ n ih =>
    unfold fillLoop
    split
    · rw [ih]; simp
    · rfl
@[simp] theorem fillLoop_link_waiting (n : Nat) (s : State) : (fillLoop n s).link.waiting = s.link.waiting := by
  induction n generalizing s with
  | zero => rfl
  | succ n ih =>
    unfold fillLoop
    split
    · rw [ih]; simp
    · rfl
@[simp] theorem fillLoop_link_enableMask (n : Nat) (s : State) : (fillLoop n s).link.enableMask = s.link.enableMask := by
  induction n generalizing s with
  | zero => rfl
  | succ n ih =>
    unfold fillLoop
    split
    · rw [ih]; simp
    · rfl
@[simp] theorem fillLoop_link_watermark (n : Nat) (s : State) : (fillLoop n s).link.watermark = s.link.watermark := by
  induction n generalizing s with
  | zero => rfl
  | succ n ih =>
    unfold fillLoop
    split
    · rw [ih]; simp
    · rfl
@[simp] theorem fillLoop_disp_paused (n : Nat) (s : State) : (fillLoop n s).disp.paused = s.disp.paused := by
  induction n generalizing s with
  | zero => rfl
  | succ n ih =>
    unfold fillLoop
    split
    · rw [ih]; simp
    · rfl
@[simp] theorem fillLoop_run_enabled (n : Nat) (s : State) : (fillLoop n s).run.enabled = s.run.enabled := by
  induction n generalizing s with
  | zero => rfl
  | succ n ih =>
    unfold fillLoop
    split
    · rw [ih]; simp
    · rfl
@[simp] theorem fillLoop_run_vac (n : Nat) (s : State) : (fillLoop n s).run.vac = s.run.vac := by
  induction n generalizing s with
  | zero => rfl
  | succ n ih =>
    unfold fillLoop
    split
    · rw [ih]; simp
    · rfl
@[simp] theorem fillLoop_run_lid (n : Nat) (s : State) : (fillLoop n s).run.lid = s.run.lid := by
  induction n generalizing s with
  | zero => rfl
  | succ n ih =>
    unfold fillLoop
    split
    · rw [ih]; simp
    · rfl
@[simp] theorem fillLoop_run_outputs (n : Nat) (s : State) : (fillLoop n s).run.outputs = s.run.outputs := by
  induction n generalizing s with
  | zero => rfl
  | succ n ih =>
    unfold fillLoop
    split
    · rw [ih]; simp
    · rfl
@[simp] theorem fillLoop_relays_tOp (n : Nat) (s : State) : (fillLoop n s).relays.tOp = s.relays.tOp := by
  induction n generalizing s with
  | zero => rfl
  | succ n ih =>
    unfold fillLoop
    split
    · rw [ih]; simp
    · rfl
@[simp] theorem fillLoop_relays_tRel (n : Nat) (s : State) : (fillLoop n s).relays.tRel = s.relays.tRel := by
  induction n generalizing s with
  | zero => rfl
  | succ n ih =>
    unfold fillLoop
    split
    · rw [ih]; simp
    · rfl
@[simp] theorem fillLoop_sites_count (n : Nat) (s : State) : (fillLoop n s).sites.count = s.sites.count := by
  induction n generalizing s with
  | zero => rfl
  | succ n ih =>
    unfold fillLoop
    split
    · rw [ih]; simp
    · rfl

@[simp] theorem State.fill_time (s : State) : (s.fill).time = s.time := by
  simp [State.fill]
@[simp] theorem State.fill_tickTaken (s : State) : (s.fill).tickTaken = s.tickTaken := by
  simp [State.fill]
@[simp] theorem State.fill_pending (s : State) : (s.fill).pending = s.pending := by
  simp [State.fill]
@[simp] theorem State.fill_link_receiver (s : State) : (s.fill).link.receiver = s.link.receiver := by
  simp [State.fill]
@[simp] theorem State.fill_link_slot (s : State) : (s.fill).link.slot = s.link.slot := by
  simp [State.fill]
@[simp] theorem State.fill_link_fault (s : State) : (s.fill).link.fault = s.link.fault := by
  simp [State.fill]
@[simp] theorem State.fill_link_errorCount (s : State) : (s.fill).link.errorCount = s.link.errorCount := by
  simp [State.fill]
@[simp] theorem State.fill_link_sending (s : State) : (s.fill).link.sending = s.link.sending := by
  simp [State.fill]
@[simp] theorem State.fill_link_waiting (s : State) : (s.fill).link.waiting = s.link.waiting := by
  simp [State.fill]
@[simp] theorem State.fill_link_enableMask (s : State) : (s.fill).link.enableMask = s.link.enableMask := by
  simp [State.fill]
@[simp] theorem State.fill_link_watermark (s : State) : (s.fill).link.watermark = s.link.watermark := by
  simp [State.fill]
@[simp] theorem State.fill_disp_paused (s : State) : (s.fill).disp.paused = s.disp.paused := by
  simp [State.fill]
@[simp] theorem State.fill_run_enabled (s : State) : (s.fill).run.enabled = s.run.enabled := by
  simp [State.fill]
@[simp] theorem State.fill_run_vac (s : State) : (s.fill).run.vac = s.run.vac := by
  simp [State.fill]
@[simp] theorem State.fill_run_lid (s : State) : (s.fill).run.lid = s.run.lid := by
  simp [State.fill]
@[simp] theorem State.fill_run_outputs (s : State) : (s.fill).run.outputs = s.run.outputs := by
  simp [State.fill]
@[simp] theorem State.fill_relays_tOp (s : State) : (s.fill).relays.tOp = s.relays.tOp := by
  simp [State.fill]
@[simp] theorem State.fill_relays_tRel (s : State) : (s.fill).relays.tRel = s.relays.tRel := by
  simp [State.fill]
@[simp] theorem State.fill_sites_count (s : State) : (s.fill).sites.count = s.sites.count := by
  simp [State.fill]

@[simp] theorem State.parkOrRelease_time (s : State) (c : Chan) (i : Instance) : (s.parkOrRelease c i).time = s.time := by
  unfold State.parkOrRelease; split <;> simp
@[simp] theorem State.parkOrRelease_tickTaken (s : State) (c : Chan) (i : Instance) : (s.parkOrRelease c i).tickTaken = s.tickTaken := by
  unfold State.parkOrRelease; split <;> simp
@[simp] theorem State.parkOrRelease_plan (s : State) (c : Chan) (i : Instance) : (s.parkOrRelease c i).plan = s.plan := by
  unfold State.parkOrRelease; split <;> simp
@[simp] theorem State.parkOrRelease_sites (s : State) (c : Chan) (i : Instance) : (s.parkOrRelease c i).sites = s.sites := by
  unfold State.parkOrRelease; split <;> simp
@[simp] theorem State.parkOrRelease_results (s : State) (c : Chan) (i : Instance) : (s.parkOrRelease c i).results = s.results := by
  unfold State.parkOrRelease; split <;> simp
@[simp] theorem State.parkOrRelease_counters (s : State) (c : Chan) (i : Instance) : (s.parkOrRelease c i).counters = s.counters := by
  unfold State.parkOrRelease; split <;> simp
@[simp] theorem State.parkOrRelease_run (s : State) (c : Chan) (i : Instance) : (s.parkOrRelease c i).run = s.run := by
  unfold State.parkOrRelease; split <;> simp
@[simp] theorem State.parkOrRelease_link (s : State) (c : Chan) (i : Instance) : (s.parkOrRelease c i).link = s.link := by
  unfold State.parkOrRelease; split <;> simp
@[simp] theorem State.parkOrRelease_pending (s : State) (c : Chan) (i : Instance) : (s.parkOrRelease c i).pending = s.pending := by
  unfold State.parkOrRelease; split <;> simp
@[simp] theorem State.parkOrRelease_disp_fetch (s : State) (c : Chan) (i : Instance) : (s.parkOrRelease c i).disp.fetch = s.disp.fetch := by
  unfold State.parkOrRelease; split <;> simp
@[simp] theorem State.parkOrRelease_disp_paused (s : State) (c : Chan) (i : Instance) : (s.parkOrRelease c i).disp.paused = s.disp.paused := by
  unfold State.parkOrRelease; split <;> simp
@[simp] theorem State.parkOrRelease_disp_starved (s : State) (c : Chan) (i : Instance) : (s.parkOrRelease c i).disp.starved = s.disp.starved := by
  unfold State.parkOrRelease; split <;> simp
@[simp] theorem State.parkOrRelease_relays_tOp (s : State) (c : Chan) (i : Instance) : (s.parkOrRelease c i).relays.tOp = s.relays.tOp := by
  unfold State.parkOrRelease; split <;> simp
@[simp] theorem State.parkOrRelease_relays_tRel (s : State) (c : Chan) (i : Instance) : (s.parkOrRelease c i).relays.tRel = s.relays.tRel := by
  unfold State.parkOrRelease; split <;> simp

@[simp] theorem State.midExamine_time (s : State) : (s.midExamine).time = s.time := by
  unfold State.midExamine; split <;> simp
@[simp] theorem State.midExamine_tickTaken (s : State) : (s.midExamine).tickTaken = s.tickTaken := by
  unfold State.midExamine; split <;> simp
@[simp] theorem State.midExamine_results (s : State) : (s.midExamine).results = s.results := by
  unfold State.midExamine; split <;> simp
@[simp] theorem State.midExamine_pending (s : State) : (s.midExamine).pending = s.pending := by
  unfold State.midExamine; split <;> simp
@[simp] theorem State.midExamine_link_receiver (s : State) : (s.midExamine).link.receiver = s.link.receiver := by
  unfold State.midExamine; split <;> simp
@[simp] theorem State.midExamine_link_slot (s : State) : (s.midExamine).link.slot = s.link.slot := by
  unfold State.midExamine; split <;> simp
@[simp] theorem State.midExamine_link_fault (s : State) : (s.midExamine).link.fault = s.link.fault := by
  unfold State.midExamine; split <;> simp
@[simp] theorem State.midExamine_link_errorCount (s : State) : (s.midExamine).link.errorCount = s.link.errorCount := by
  unfold State.midExamine; split <;> simp
@[simp] theorem State.midExamine_link_sending (s : State) : (s.midExamine).link.sending = s.link.sending := by
  unfold State.midExamine; split <;> simp
@[simp] theorem State.midExamine_link_waiting (s : State) : (s.midExamine).link.waiting = s.link.waiting := by
  unfold State.midExamine; split <;> simp
@[simp] theorem State.midExamine_link_enableMask (s : State) : (s.midExamine).link.enableMask = s.link.enableMask := by
  unfold State.midExamine; split <;> simp
@[simp] theorem State.midExamine_link_watermark (s : State) : (s.midExamine).link.watermark = s.link.watermark := by
  unfold State.midExamine; split <;> simp
@[simp] theorem State.midExamine_disp_fetch (s : State) : (s.midExamine).disp.fetch = s.disp.fetch := by
  unfold State.midExamine; split <;> simp
@[simp] theorem State.midExamine_disp_paused (s : State) : (s.midExamine).disp.paused = s.disp.paused := by
  unfold State.midExamine; split <;> simp
@[simp] theorem State.midExamine_disp_starved (s : State) : (s.midExamine).disp.starved = s.disp.starved := by
  unfold State.midExamine; split <;> simp
@[simp] theorem State.midExamine_run_state (s : State) : (s.midExamine).run.state = s.run.state := by
  unfold State.midExamine; split <;> simp
@[simp] theorem State.midExamine_run_enabled (s : State) : (s.midExamine).run.enabled = s.run.enabled := by
  unfold State.midExamine; split <;> simp
@[simp] theorem State.midExamine_run_vac (s : State) : (s.midExamine).run.vac = s.run.vac := by
  unfold State.midExamine; split <;> simp
@[simp] theorem State.midExamine_run_lid (s : State) : (s.midExamine).run.lid = s.run.lid := by
  unfold State.midExamine; split <;> simp
@[simp] theorem State.midExamine_run_outputs (s : State) : (s.midExamine).run.outputs = s.run.outputs := by
  unfold State.midExamine; split <;> simp
@[simp] theorem State.midExamine_relays_tOp (s : State) : (s.midExamine).relays.tOp = s.relays.tOp := by
  unfold State.midExamine; split <;> simp
@[simp] theorem State.midExamine_relays_tRel (s : State) : (s.midExamine).relays.tRel = s.relays.tRel := by
  unfold State.midExamine; split <;> simp
@[simp] theorem State.midExamine_sites_count (s : State) : (s.midExamine).sites.count = s.sites.count := by
  unfold State.midExamine; split <;> simp

@[simp] theorem State.normalPost_time (s : State) (c : Chan) (i : Instance) (r : ResultRecord) : (s.normalPost c i r).time = s.time := by
  simp [State.normalPost]
@[simp] theorem State.normalPost_tickTaken (s : State) (c : Chan) (i : Instance) (r : ResultRecord) : (s.normalPost c i r).tickTaken = s.tickTaken := by
  simp [State.normalPost]
@[simp] theorem State.normalPost_pending (s : State) (c : Chan) (i : Instance) (r : ResultRecord) : (s.normalPost c i r).pending = s.pending := by
  simp [State.normalPost]
@[simp] theorem State.normalPost_link_receiver (s : State) (c : Chan) (i : Instance) (r : ResultRecord) : (s.normalPost c i r).link.receiver = s.link.receiver := by
  simp [State.normalPost]
@[simp] theorem State.normalPost_link_slot (s : State) (c : Chan) (i : Instance) (r : ResultRecord) : (s.normalPost c i r).link.slot = s.link.slot := by
  simp [State.normalPost]
@[simp] theorem State.normalPost_link_fault (s : State) (c : Chan) (i : Instance) (r : ResultRecord) : (s.normalPost c i r).link.fault = s.link.fault := by
  simp [State.normalPost]
@[simp] theorem State.normalPost_link_errorCount (s : State) (c : Chan) (i : Instance) (r : ResultRecord) : (s.normalPost c i r).link.errorCount = s.link.errorCount := by
  simp [State.normalPost]
@[simp] theorem State.normalPost_link_sending (s : State) (c : Chan) (i : Instance) (r : ResultRecord) : (s.normalPost c i r).link.sending = s.link.sending := by
  simp [State.normalPost]
@[simp] theorem State.normalPost_link_waiting (s : State) (c : Chan) (i : Instance) (r : ResultRecord) : (s.normalPost c i r).link.waiting = s.link.waiting := by
  simp [State.normalPost]
@[simp] theorem State.normalPost_link_enableMask (s : State) (c : Chan) (i : Instance) (r : ResultRecord) : (s.normalPost c i r).link.enableMask = s.link.enableMask := by
  simp [State.normalPost]
@[simp] theorem State.normalPost_link_watermark (s : State) (c : Chan) (i : Instance) (r : ResultRecord) : (s.normalPost c i r).link.watermark = s.link.watermark := by
  simp [State.normalPost]
@[simp] theorem State.normalPost_disp_fetch (s : State) (c : Chan) (i : Instance) (r : ResultRecord) : (s.normalPost c i r).disp.fetch = s.disp.fetch := by
  simp [State.normalPost]
@[simp] theorem State.normalPost_disp_paused (s : State) (c : Chan) (i : Instance) (r : ResultRecord) : (s.normalPost c i r).disp.paused = s.disp.paused := by
  simp [State.normalPost]
@[simp] theorem State.normalPost_disp_starved (s : State) (c : Chan) (i : Instance) (r : ResultRecord) : (s.normalPost c i r).disp.starved = s.disp.starved := by
  simp [State.normalPost]
@[simp] theorem State.normalPost_run_state (s : State) (c : Chan) (i : Instance) (r : ResultRecord) : (s.normalPost c i r).run.state = s.run.state := by
  simp [State.normalPost]
@[simp] theorem State.normalPost_run_enabled (s : State) (c : Chan) (i : Instance) (r : ResultRecord) : (s.normalPost c i r).run.enabled = s.run.enabled := by
  simp [State.normalPost]
@[simp] theorem State.normalPost_run_vac (s : State) (c : Chan) (i : Instance) (r : ResultRecord) : (s.normalPost c i r).run.vac = s.run.vac := by
  simp [State.normalPost]
@[simp] theorem State.normalPost_run_lid (s : State) (c : Chan) (i : Instance) (r : ResultRecord) : (s.normalPost c i r).run.lid = s.run.lid := by
  simp [State.normalPost]
@[simp] theorem State.normalPost_run_outputs (s : State) (c : Chan) (i : Instance) (r : ResultRecord) : (s.normalPost c i r).run.outputs = s.run.outputs := by
  simp [State.normalPost]
@[simp] theorem State.normalPost_relays_tOp (s : State) (c : Chan) (i : Instance) (r : ResultRecord) : (s.normalPost c i r).relays.tOp = s.relays.tOp := by
  simp [State.normalPost]
@[simp] theorem State.normalPost_relays_tRel (s : State) (c : Chan) (i : Instance) (r : ResultRecord) : (s.normalPost c i r).relays.tRel = s.relays.tRel := by
  simp [State.normalPost]
@[simp] theorem State.normalPost_sites_count (s : State) (c : Chan) (i : Instance) (r : ResultRecord) : (s.normalPost c i r).sites.count = s.sites.count := by
  simp [State.normalPost]

@[simp] theorem State.offerRecord_time (s : State) (c : Chan) (i : Instance) (r : ResultRecord) : (s.offerRecord c i r).time = s.time := by
  unfold State.offerRecord; split <;> simp
@[simp] theorem State.offerRecord_tickTaken (s : State) (c : Chan) (i : Instance) (r : ResultRecord) : (s.offerRecord c i r).tickTaken = s.tickTaken := by
  unfold State.offerRecord; split <;> simp
@[simp] theorem State.offerRecord_pending (s : State) (c : Chan) (i : Instance) (r : ResultRecord) : (s.offerRecord c i r).pending = s.pending := by
  unfold State.offerRecord; split <;> simp
@[simp] theorem State.offerRecord_link_receiver (s : State) (c : Chan) (i : Instance) (r : ResultRecord) : (s.offerRecord c i r).link.receiver = s.link.receiver := by
  unfold State.offerRecord; split <;> simp
@[simp] theorem State.offerRecord_link_slot (s : State) (c : Chan) (i : Instance) (r : ResultRecord) : (s.offerRecord c i r).link.slot = s.link.slot := by
  unfold State.offerRecord; split <;> simp
@[simp] theorem State.offerRecord_link_fault (s : State) (c : Chan) (i : Instance) (r : ResultRecord) : (s.offerRecord c i r).link.fault = s.link.fault := by
  unfold State.offerRecord; split <;> simp
@[simp] theorem State.offerRecord_link_errorCount (s : State) (c : Chan) (i : Instance) (r : ResultRecord) : (s.offerRecord c i r).link.errorCount = s.link.errorCount := by
  unfold State.offerRecord; split <;> simp
@[simp] theorem State.offerRecord_link_sending (s : State) (c : Chan) (i : Instance) (r : ResultRecord) : (s.offerRecord c i r).link.sending = s.link.sending := by
  unfold State.offerRecord; split <;> simp
@[simp] theorem State.offerRecord_link_waiting (s : State) (c : Chan) (i : Instance) (r : ResultRecord) : (s.offerRecord c i r).link.waiting = s.link.waiting := by
  unfold State.offerRecord; split <;> simp
@[simp] theorem State.offerRecord_link_enableMask (s : State) (c : Chan) (i : Instance) (r : ResultRecord) : (s.offerRecord c i r).link.enableMask = s.link.enableMask := by
  unfold State.offerRecord; split <;> simp
@[simp] theorem State.offerRecord_link_watermark (s : State) (c : Chan) (i : Instance) (r : ResultRecord) : (s.offerRecord c i r).link.watermark = s.link.watermark := by
  unfold State.offerRecord; split <;> simp
@[simp] theorem State.offerRecord_disp_fetch (s : State) (c : Chan) (i : Instance) (r : ResultRecord) : (s.offerRecord c i r).disp.fetch = s.disp.fetch := by
  unfold State.offerRecord; split <;> simp
@[simp] theorem State.offerRecord_disp_paused (s : State) (c : Chan) (i : Instance) (r : ResultRecord) : (s.offerRecord c i r).disp.paused = s.disp.paused := by
  unfold State.offerRecord; split <;> simp
@[simp] theorem State.offerRecord_disp_starved (s : State) (c : Chan) (i : Instance) (r : ResultRecord) : (s.offerRecord c i r).disp.starved = s.disp.starved := by
  unfold State.offerRecord; split <;> simp
@[simp] theorem State.offerRecord_run_state (s : State) (c : Chan) (i : Instance) (r : ResultRecord) : (s.offerRecord c i r).run.state = s.run.state := by
  unfold State.offerRecord; split <;> simp
@[simp] theorem State.offerRecord_run_enabled (s : State) (c : Chan) (i : Instance) (r : ResultRecord) : (s.offerRecord c i r).run.enabled = s.run.enabled := by
  unfold State.offerRecord; split <;> simp
@[simp] theorem State.offerRecord_run_vac (s : State) (c : Chan) (i : Instance) (r : ResultRecord) : (s.offerRecord c i r).run.vac = s.run.vac := by
  unfold State.offerRecord; split <;> simp
@[simp] theorem State.offerRecord_run_lid (s : State) (c : Chan) (i : Instance) (r : ResultRecord) : (s.offerRecord c i r).run.lid = s.run.lid := by
  unfold State.offerRecord; split <;> simp
@[simp] theorem State.offerRecord_run_outputs (s : State) (c : Chan) (i : Instance) (r : ResultRecord) : (s.offerRecord c i r).run.outputs = s.run.outputs := by
  unfold State.offerRecord; split <;> simp
@[simp] theorem State.offerRecord_relays_tOp (s : State) (c : Chan) (i : Instance) (r : ResultRecord) : (s.offerRecord c i r).relays.tOp = s.relays.tOp := by
  unfold State.offerRecord; split <;> simp
@[simp] theorem State.offerRecord_relays_tRel (s : State) (c : Chan) (i : Instance) (r : ResultRecord) : (s.offerRecord c i r).relays.tRel = s.relays.tRel := by
  unfold State.offerRecord; split <;> simp
@[simp] theorem State.offerRecord_sites_count (s : State) (c : Chan) (i : Instance) (r : ResultRecord) : (s.offerRecord c i r).sites.count = s.sites.count := by
  unfold State.offerRecord; split <;> simp

@[simp] theorem State.finish_time (s : State) (c : Chan) (k : Running) (j : Judgement) : (s.finish c k j).time = s.time := by
  simp [State.finish]
@[simp] theorem State.finish_tickTaken (s : State) (c : Chan) (k : Running) (j : Judgement) : (s.finish c k j).tickTaken = s.tickTaken := by
  simp [State.finish]
@[simp] theorem State.finish_pending (s : State) (c : Chan) (k : Running) (j : Judgement) : (s.finish c k j).pending = s.pending := by
  simp [State.finish]
@[simp] theorem State.finish_link_receiver (s : State) (c : Chan) (k : Running) (j : Judgement) : (s.finish c k j).link.receiver = s.link.receiver := by
  simp [State.finish]
@[simp] theorem State.finish_link_slot (s : State) (c : Chan) (k : Running) (j : Judgement) : (s.finish c k j).link.slot = s.link.slot := by
  simp [State.finish]
@[simp] theorem State.finish_link_fault (s : State) (c : Chan) (k : Running) (j : Judgement) : (s.finish c k j).link.fault = s.link.fault := by
  simp [State.finish]
@[simp] theorem State.finish_link_errorCount (s : State) (c : Chan) (k : Running) (j : Judgement) : (s.finish c k j).link.errorCount = s.link.errorCount := by
  simp [State.finish]
@[simp] theorem State.finish_link_sending (s : State) (c : Chan) (k : Running) (j : Judgement) : (s.finish c k j).link.sending = s.link.sending := by
  simp [State.finish]
@[simp] theorem State.finish_link_waiting (s : State) (c : Chan) (k : Running) (j : Judgement) : (s.finish c k j).link.waiting = s.link.waiting := by
  simp [State.finish]
@[simp] theorem State.finish_link_enableMask (s : State) (c : Chan) (k : Running) (j : Judgement) : (s.finish c k j).link.enableMask = s.link.enableMask := by
  simp [State.finish]
@[simp] theorem State.finish_link_watermark (s : State) (c : Chan) (k : Running) (j : Judgement) : (s.finish c k j).link.watermark = s.link.watermark := by
  simp [State.finish]
@[simp] theorem State.finish_disp_fetch (s : State) (c : Chan) (k : Running) (j : Judgement) : (s.finish c k j).disp.fetch = s.disp.fetch := by
  simp [State.finish]
@[simp] theorem State.finish_disp_paused (s : State) (c : Chan) (k : Running) (j : Judgement) : (s.finish c k j).disp.paused = s.disp.paused := by
  simp [State.finish]
@[simp] theorem State.finish_disp_starved (s : State) (c : Chan) (k : Running) (j : Judgement) : (s.finish c k j).disp.starved = s.disp.starved := by
  simp [State.finish]
@[simp] theorem State.finish_run_state (s : State) (c : Chan) (k : Running) (j : Judgement) : (s.finish c k j).run.state = s.run.state := by
  simp [State.finish]
@[simp] theorem State.finish_run_enabled (s : State) (c : Chan) (k : Running) (j : Judgement) : (s.finish c k j).run.enabled = s.run.enabled := by
  simp [State.finish]
@[simp] theorem State.finish_run_vac (s : State) (c : Chan) (k : Running) (j : Judgement) : (s.finish c k j).run.vac = s.run.vac := by
  simp [State.finish]
@[simp] theorem State.finish_run_lid (s : State) (c : Chan) (k : Running) (j : Judgement) : (s.finish c k j).run.lid = s.run.lid := by
  simp [State.finish]
@[simp] theorem State.finish_run_outputs (s : State) (c : Chan) (k : Running) (j : Judgement) : (s.finish c k j).run.outputs = s.run.outputs := by
  simp [State.finish]
@[simp] theorem State.finish_relays_tOp (s : State) (c : Chan) (k : Running) (j : Judgement) : (s.finish c k j).relays.tOp = s.relays.tOp := by
  simp [State.finish]
@[simp] theorem State.finish_relays_tRel (s : State) (c : Chan) (k : Running) (j : Judgement) : (s.finish c k j).relays.tRel = s.relays.tRel := by
  simp [State.finish]
@[simp] theorem State.finish_sites_count (s : State) (c : Chan) (k : Running) (j : Judgement) : (s.finish c k j).sites.count = s.sites.count := by
  simp [State.finish]

@[simp] theorem State.retry_time (s : State) (c : Chan) (k : Running) : (s.retry c k).time = s.time := by
  simp [State.retry]
@[simp] theorem State.retry_tickTaken (s : State) (c : Chan) (k : Running) : (s.retry c k).tickTaken = s.tickTaken := by
  simp [State.retry]
@[simp] theorem State.retry_relays (s : State) (c : Chan) (k : Running) : (s.retry c k).relays = s.relays := by
  simp [State.retry]
@[simp] theorem State.retry_results (s : State) (c : Chan) (k : Running) : (s.retry c k).results = s.results := by
  simp [State.retry]
@[simp] theorem State.retry_pending (s : State) (c : Chan) (k : Running) : (s.retry c k).pending = s.pending := by
  simp [State.retry]
@[simp] theorem State.retry_link_receiver (s : State) (c : Chan) (k : Running) : (s.retry c k).link.receiver = s.link.receiver := by
  simp [State.retry]
@[simp] theorem State.retry_link_slot (s : State) (c : Chan) (k : Running) : (s.retry c k).link.slot = s.link.slot := by
  simp [State.retry]
@[simp] theorem State.retry_link_fault (s : State) (c : Chan) (k : Running) : (s.retry c k).link.fault = s.link.fault := by
  simp [State.retry]
@[simp] theorem State.retry_link_errorCount (s : State) (c : Chan) (k : Running) : (s.retry c k).link.errorCount = s.link.errorCount := by
  simp [State.retry]
@[simp] theorem State.retry_link_sending (s : State) (c : Chan) (k : Running) : (s.retry c k).link.sending = s.link.sending := by
  simp [State.retry]
@[simp] theorem State.retry_link_waiting (s : State) (c : Chan) (k : Running) : (s.retry c k).link.waiting = s.link.waiting := by
  simp [State.retry]
@[simp] theorem State.retry_link_enableMask (s : State) (c : Chan) (k : Running) : (s.retry c k).link.enableMask = s.link.enableMask := by
  simp [State.retry]
@[simp] theorem State.retry_link_watermark (s : State) (c : Chan) (k : Running) : (s.retry c k).link.watermark = s.link.watermark := by
  simp [State.retry]
@[simp] theorem State.retry_disp_fetch (s : State) (c : Chan) (k : Running) : (s.retry c k).disp.fetch = s.disp.fetch := by
  simp [State.retry]
@[simp] theorem State.retry_disp_paused (s : State) (c : Chan) (k : Running) : (s.retry c k).disp.paused = s.disp.paused := by
  simp [State.retry]
@[simp] theorem State.retry_disp_starved (s : State) (c : Chan) (k : Running) : (s.retry c k).disp.starved = s.disp.starved := by
  simp [State.retry]
@[simp] theorem State.retry_run_state (s : State) (c : Chan) (k : Running) : (s.retry c k).run.state = s.run.state := by
  simp [State.retry]
@[simp] theorem State.retry_run_enabled (s : State) (c : Chan) (k : Running) : (s.retry c k).run.enabled = s.run.enabled := by
  simp [State.retry]
@[simp] theorem State.retry_run_vac (s : State) (c : Chan) (k : Running) : (s.retry c k).run.vac = s.run.vac := by
  simp [State.retry]
@[simp] theorem State.retry_run_lid (s : State) (c : Chan) (k : Running) : (s.retry c k).run.lid = s.run.lid := by
  simp [State.retry]
@[simp] theorem State.retry_run_outputs (s : State) (c : Chan) (k : Running) : (s.retry c k).run.outputs = s.run.outputs := by
  simp [State.retry]
@[simp] theorem State.retry_sites_count (s : State) (c : Chan) (k : Running) : (s.retry c k).sites.count = s.sites.count := by
  simp [State.retry]

@[simp] theorem State.judged_time (s : State) (c : Chan) (k : Running) (j : Judgement) : (s.judged c k j).time = s.time := by
  unfold State.judged; split <;> simp
@[simp] theorem State.judged_tickTaken (s : State) (c : Chan) (k : Running) (j : Judgement) : (s.judged c k j).tickTaken = s.tickTaken := by
  unfold State.judged; split <;> simp
@[simp] theorem State.judged_pending (s : State) (c : Chan) (k : Running) (j : Judgement) : (s.judged c k j).pending = s.pending := by
  unfold State.judged; split <;> simp
@[simp] theorem State.judged_link_receiver (s : State) (c : Chan) (k : Running) (j : Judgement) : (s.judged c k j).link.receiver = s.link.receiver := by
  unfold State.judged; split <;> simp
@[simp] theorem State.judged_link_slot (s : State) (c : Chan) (k : Running) (j : Judgement) : (s.judged c k j).link.slot = s.link.slot := by
  unfold State.judged; split <;> simp
@[simp] theorem State.judged_link_fault (s : State) (c : Chan) (k : Running) (j : Judgement) : (s.judged c k j).link.fault = s.link.fault := by
  unfold State.judged; split <;> simp
@[simp] theorem State.judged_link_errorCount (s : State) (c : Chan) (k : Running) (j : Judgement) : (s.judged c k j).link.errorCount = s.link.errorCount := by
  unfold State.judged; split <;> simp
@[simp] theorem State.judged_link_sending (s : State) (c : Chan) (k : Running) (j : Judgement) : (s.judged c k j).link.sending = s.link.sending := by
  unfold State.judged; split <;> simp
@[simp] theorem State.judged_link_waiting (s : State) (c : Chan) (k : Running) (j : Judgement) : (s.judged c k j).link.waiting = s.link.waiting := by
  unfold State.judged; split <;> simp
@[simp] theorem State.judged_link_enableMask (s : State) (c : Chan) (k : Running) (j : Judgement) : (s.judged c k j).link.enableMask = s.link.enableMask := by
  unfold State.judged; split <;> simp
@[simp] theorem State.judged_link_watermark (s : State) (c : Chan) (k : Running) (j : Judgement) : (s.judged c k j).link.watermark = s.link.watermark := by
  unfold State.judged; split <;> simp
@[simp] theorem State.judged_disp_fetch (s : State) (c : Chan) (k : Running) (j : Judgement) : (s.judged c k j).disp.fetch = s.disp.fetch := by
  unfold State.judged; split <;> simp
@[simp] theorem State.judged_disp_paused (s : State) (c : Chan) (k : Running) (j : Judgement) : (s.judged c k j).disp.paused = s.disp.paused := by
  unfold State.judged; split <;> simp
@[simp] theorem State.judged_disp_starved (s : State) (c : Chan) (k : Running) (j : Judgement) : (s.judged c k j).disp.starved = s.disp.starved := by
  unfold State.judged; split <;> simp
@[simp] theorem State.judged_run_state (s : State) (c : Chan) (k : Running) (j : Judgement) : (s.judged c k j).run.state = s.run.state := by
  unfold State.judged; split <;> simp
@[simp] theorem State.judged_run_enabled (s : State) (c : Chan) (k : Running) (j : Judgement) : (s.judged c k j).run.enabled = s.run.enabled := by
  unfold State.judged; split <;> simp
@[simp] theorem State.judged_run_vac (s : State) (c : Chan) (k : Running) (j : Judgement) : (s.judged c k j).run.vac = s.run.vac := by
  unfold State.judged; split <;> simp
@[simp] theorem State.judged_run_lid (s : State) (c : Chan) (k : Running) (j : Judgement) : (s.judged c k j).run.lid = s.run.lid := by
  unfold State.judged; split <;> simp
@[simp] theorem State.judged_run_outputs (s : State) (c : Chan) (k : Running) (j : Judgement) : (s.judged c k j).run.outputs = s.run.outputs := by
  unfold State.judged; split <;> simp
@[simp] theorem State.judged_relays_tOp (s : State) (c : Chan) (k : Running) (j : Judgement) : (s.judged c k j).relays.tOp = s.relays.tOp := by
  unfold State.judged; split <;> simp
@[simp] theorem State.judged_relays_tRel (s : State) (c : Chan) (k : Running) (j : Judgement) : (s.judged c k j).relays.tRel = s.relays.tRel := by
  unfold State.judged; split <;> simp
@[simp] theorem State.judged_sites_count (s : State) (c : Chan) (k : Running) (j : Judgement) : (s.judged c k j).sites.count = s.sites.count := by
  unfold State.judged; split <;> simp

@[simp] theorem State.settledNow_time (s : State) (c : Chan) (k : Running) (m : Monitor) : (s.settledNow c k m).time = s.time := by
  rfl
@[simp] theorem State.settledNow_tickTaken (s : State) (c : Chan) (k : Running) (m : Monitor) : (s.settledNow c k m).tickTaken = s.tickTaken := by
  rfl
@[simp] theorem State.settledNow_plan (s : State) (c : Chan) (k : Running) (m : Monitor) : (s.settledNow c k m).plan = s.plan := by
  rfl
@[simp] theorem State.settledNow_sites (s : State) (c : Chan) (k : Running) (m : Monitor) : (s.settledNow c k m).sites = s.sites := by
  rfl
@[simp] theorem State.settledNow_disp (s : State) (c : Chan) (k : Running) (m : Monitor) : (s.settledNow c k m).disp = s.disp := by
  rfl
@[simp] theorem State.settledNow_relays (s : State) (c : Chan) (k : Running) (m : Monitor) : (s.settledNow c k m).relays = s.relays := by
  rfl
@[simp] theorem State.settledNow_results (s : State) (c : Chan) (k : Running) (m : Monitor) : (s.settledNow c k m).results = s.results := by
  rfl
@[simp] theorem State.settledNow_counters (s : State) (c : Chan) (k : Running) (m : Monitor) : (s.settledNow c k m).counters = s.counters := by
  rfl
@[simp] theorem State.settledNow_run (s : State) (c : Chan) (k : Running) (m : Monitor) : (s.settledNow c k m).run = s.run := by
  rfl
@[simp] theorem State.settledNow_link (s : State) (c : Chan) (k : Running) (m : Monitor) : (s.settledNow c k m).link = s.link := by
  rfl
@[simp] theorem State.settledNow_pending (s : State) (c : Chan) (k : Running) (m : Monitor) : (s.settledNow c k m).pending = s.pending := by
  rfl

@[simp] theorem State.driftBack_time (s : State) (c : Chan) (k : Running) (v : Int) : (s.driftBack c k v).time = s.time := by
  simp [State.driftBack]
@[simp] theorem State.driftBack_tickTaken (s : State) (c : Chan) (k : Running) (v : Int) : (s.driftBack c k v).tickTaken = s.tickTaken := by
  simp [State.driftBack]
@[simp] theorem State.driftBack_relays (s : State) (c : Chan) (k : Running) (v : Int) : (s.driftBack c k v).relays = s.relays := by
  simp [State.driftBack]
@[simp] theorem State.driftBack_results (s : State) (c : Chan) (k : Running) (v : Int) : (s.driftBack c k v).results = s.results := by
  simp [State.driftBack]
@[simp] theorem State.driftBack_pending (s : State) (c : Chan) (k : Running) (v : Int) : (s.driftBack c k v).pending = s.pending := by
  simp [State.driftBack]
@[simp] theorem State.driftBack_link_receiver (s : State) (c : Chan) (k : Running) (v : Int) : (s.driftBack c k v).link.receiver = s.link.receiver := by
  simp [State.driftBack]
@[simp] theorem State.driftBack_link_slot (s : State) (c : Chan) (k : Running) (v : Int) : (s.driftBack c k v).link.slot = s.link.slot := by
  simp [State.driftBack]
@[simp] theorem State.driftBack_link_fault (s : State) (c : Chan) (k : Running) (v : Int) : (s.driftBack c k v).link.fault = s.link.fault := by
  simp [State.driftBack]
@[simp] theorem State.driftBack_link_errorCount (s : State) (c : Chan) (k : Running) (v : Int) : (s.driftBack c k v).link.errorCount = s.link.errorCount := by
  simp [State.driftBack]
@[simp] theorem State.driftBack_link_sending (s : State) (c : Chan) (k : Running) (v : Int) : (s.driftBack c k v).link.sending = s.link.sending := by
  simp [State.driftBack]
@[simp] theorem State.driftBack_link_waiting (s : State) (c : Chan) (k : Running) (v : Int) : (s.driftBack c k v).link.waiting = s.link.waiting := by
  simp [State.driftBack]
@[simp] theorem State.driftBack_link_enableMask (s : State) (c : Chan) (k : Running) (v : Int) : (s.driftBack c k v).link.enableMask = s.link.enableMask := by
  simp [State.driftBack]
@[simp] theorem State.driftBack_link_watermark (s : State) (c : Chan) (k : Running) (v : Int) : (s.driftBack c k v).link.watermark = s.link.watermark := by
  simp [State.driftBack]
@[simp] theorem State.driftBack_disp_fetch (s : State) (c : Chan) (k : Running) (v : Int) : (s.driftBack c k v).disp.fetch = s.disp.fetch := by
  simp [State.driftBack]
@[simp] theorem State.driftBack_disp_paused (s : State) (c : Chan) (k : Running) (v : Int) : (s.driftBack c k v).disp.paused = s.disp.paused := by
  simp [State.driftBack]
@[simp] theorem State.driftBack_disp_starved (s : State) (c : Chan) (k : Running) (v : Int) : (s.driftBack c k v).disp.starved = s.disp.starved := by
  simp [State.driftBack]
@[simp] theorem State.driftBack_run_state (s : State) (c : Chan) (k : Running) (v : Int) : (s.driftBack c k v).run.state = s.run.state := by
  simp [State.driftBack]
@[simp] theorem State.driftBack_run_enabled (s : State) (c : Chan) (k : Running) (v : Int) : (s.driftBack c k v).run.enabled = s.run.enabled := by
  simp [State.driftBack]
@[simp] theorem State.driftBack_run_vac (s : State) (c : Chan) (k : Running) (v : Int) : (s.driftBack c k v).run.vac = s.run.vac := by
  simp [State.driftBack]
@[simp] theorem State.driftBack_run_lid (s : State) (c : Chan) (k : Running) (v : Int) : (s.driftBack c k v).run.lid = s.run.lid := by
  simp [State.driftBack]
@[simp] theorem State.driftBack_run_outputs (s : State) (c : Chan) (k : Running) (v : Int) : (s.driftBack c k v).run.outputs = s.run.outputs := by
  simp [State.driftBack]
@[simp] theorem State.driftBack_sites_count (s : State) (c : Chan) (k : Running) (v : Int) : (s.driftBack c k v).sites.count = s.sites.count := by
  simp [State.driftBack]

@[simp] theorem State.sampleBy_time (s : State) (c : Chan) (k : Running) (v : Int) (w : SampleKind) : (s.sampleBy c k v w).time = s.time := by
  unfold State.sampleBy; cases w <;> simp only <;> (repeat' split) <;> simp
@[simp] theorem State.sampleBy_tickTaken (s : State) (c : Chan) (k : Running) (v : Int) (w : SampleKind) : (s.sampleBy c k v w).tickTaken = s.tickTaken := by
  unfold State.sampleBy; cases w <;> simp only <;> (repeat' split) <;> simp
@[simp] theorem State.sampleBy_pending (s : State) (c : Chan) (k : Running) (v : Int) (w : SampleKind) : (s.sampleBy c k v w).pending = s.pending := by
  unfold State.sampleBy; cases w <;> simp only <;> (repeat' split) <;> simp
@[simp] theorem State.sampleBy_link_receiver (s : State) (c : Chan) (k : Running) (v : Int) (w : SampleKind) : (s.sampleBy c k v w).link.receiver = s.link.receiver := by
  unfold State.sampleBy; cases w <;> simp only <;> (repeat' split) <;> simp
@[simp] theorem State.sampleBy_link_slot (s : State) (c : Chan) (k : Running) (v : Int) (w : SampleKind) : (s.sampleBy c k v w).link.slot = s.link.slot := by
  unfold State.sampleBy; cases w <;> simp only <;> (repeat' split) <;> simp
@[simp] theorem State.sampleBy_link_fault (s : State) (c : Chan) (k : Running) (v : Int) (w : SampleKind) : (s.sampleBy c k v w).link.fault = s.link.fault := by
  unfold State.sampleBy; cases w <;> simp only <;> (repeat' split) <;> simp
@[simp] theorem State.sampleBy_link_errorCount (s : State) (c : Chan) (k : Running) (v : Int) (w : SampleKind) : (s.sampleBy c k v w).link.errorCount = s.link.errorCount := by
  unfold State.sampleBy; cases w <;> simp only <;> (repeat' split) <;> simp
@[simp] theorem State.sampleBy_link_sending (s : State) (c : Chan) (k : Running) (v : Int) (w : SampleKind) : (s.sampleBy c k v w).link.sending = s.link.sending := by
  unfold State.sampleBy; cases w <;> simp only <;> (repeat' split) <;> simp
@[simp] theorem State.sampleBy_link_waiting (s : State) (c : Chan) (k : Running) (v : Int) (w : SampleKind) : (s.sampleBy c k v w).link.waiting = s.link.waiting := by
  unfold State.sampleBy; cases w <;> simp only <;> (repeat' split) <;> simp
@[simp] theorem State.sampleBy_link_enableMask (s : State) (c : Chan) (k : Running) (v : Int) (w : SampleKind) : (s.sampleBy c k v w).link.enableMask = s.link.enableMask := by
  unfold State.sampleBy; cases w <;> simp only <;> (repeat' split) <;> simp
@[simp] theorem State.sampleBy_link_watermark (s : State) (c : Chan) (k : Running) (v : Int) (w : SampleKind) : (s.sampleBy c k v w).link.watermark = s.link.watermark := by
  unfold State.sampleBy; cases w <;> simp only <;> (repeat' split) <;> simp
@[simp] theorem State.sampleBy_disp_fetch (s : State) (c : Chan) (k : Running) (v : Int) (w : SampleKind) : (s.sampleBy c k v w).disp.fetch = s.disp.fetch := by
  unfold State.sampleBy; cases w <;> simp only <;> (repeat' split) <;> simp
@[simp] theorem State.sampleBy_disp_paused (s : State) (c : Chan) (k : Running) (v : Int) (w : SampleKind) : (s.sampleBy c k v w).disp.paused = s.disp.paused := by
  unfold State.sampleBy; cases w <;> simp only <;> (repeat' split) <;> simp
@[simp] theorem State.sampleBy_disp_starved (s : State) (c : Chan) (k : Running) (v : Int) (w : SampleKind) : (s.sampleBy c k v w).disp.starved = s.disp.starved := by
  unfold State.sampleBy; cases w <;> simp only <;> (repeat' split) <;> simp
@[simp] theorem State.sampleBy_run_state (s : State) (c : Chan) (k : Running) (v : Int) (w : SampleKind) : (s.sampleBy c k v w).run.state = s.run.state := by
  unfold State.sampleBy; cases w <;> simp only <;> (repeat' split) <;> simp
@[simp] theorem State.sampleBy_run_enabled (s : State) (c : Chan) (k : Running) (v : Int) (w : SampleKind) : (s.sampleBy c k v w).run.enabled = s.run.enabled := by
  unfold State.sampleBy; cases w <;> simp only <;> (repeat' split) <;> simp
@[simp] theorem State.sampleBy_run_vac (s : State) (c : Chan) (k : Running) (v : Int) (w : SampleKind) : (s.sampleBy c k v w).run.vac = s.run.vac := by
  unfold State.sampleBy; cases w <;> simp only <;> (repeat' split) <;> simp
@[simp] theorem State.sampleBy_run_lid (s : State) (c : Chan) (k : Running) (v : Int) (w : SampleKind) : (s.sampleBy c k v w).run.lid = s.run.lid := by
  unfold State.sampleBy; cases w <;> simp only <;> (repeat' split) <;> simp
@[simp] theorem State.sampleBy_run_outputs (s : State) (c : Chan) (k : Running) (v : Int) (w : SampleKind) : (s.sampleBy c k v w).run.outputs = s.run.outputs := by
  unfold State.sampleBy; cases w <;> simp only <;> (repeat' split) <;> simp
@[simp] theorem State.sampleBy_relays_tOp (s : State) (c : Chan) (k : Running) (v : Int) (w : SampleKind) : (s.sampleBy c k v w).relays.tOp = s.relays.tOp := by
  unfold State.sampleBy; cases w <;> simp only <;> (repeat' split) <;> simp
@[simp] theorem State.sampleBy_relays_tRel (s : State) (c : Chan) (k : Running) (v : Int) (w : SampleKind) : (s.sampleBy c k v w).relays.tRel = s.relays.tRel := by
  unfold State.sampleBy; cases w <;> simp only <;> (repeat' split) <;> simp
@[simp] theorem State.sampleBy_sites_count (s : State) (c : Chan) (k : Running) (v : Int) (w : SampleKind) : (s.sampleBy c k v w).sites.count = s.sites.count := by
  unfold State.sampleBy; cases w <;> simp only <;> (repeat' split) <;> simp

@[simp] theorem State.sample_time (s : State) (c : Chan) (v : Int) : (s.sample c v).time = s.time := by
  unfold State.sample; split <;> simp
@[simp] theorem State.sample_tickTaken (s : State) (c : Chan) (v : Int) : (s.sample c v).tickTaken = s.tickTaken := by
  unfold State.sample; split <;> simp
@[simp] theorem State.sample_pending (s : State) (c : Chan) (v : Int) : (s.sample c v).pending = s.pending := by
  unfold State.sample; split <;> simp
@[simp] theorem State.sample_link_receiver (s : State) (c : Chan) (v : Int) : (s.sample c v).link.receiver = s.link.receiver := by
  unfold State.sample; split <;> simp
@[simp] theorem State.sample_link_slot (s : State) (c : Chan) (v : Int) : (s.sample c v).link.slot = s.link.slot := by
  unfold State.sample; split <;> simp
@[simp] theorem State.sample_link_fault (s : State) (c : Chan) (v : Int) : (s.sample c v).link.fault = s.link.fault := by
  unfold State.sample; split <;> simp
@[simp] theorem State.sample_link_errorCount (s : State) (c : Chan) (v : Int) : (s.sample c v).link.errorCount = s.link.errorCount := by
  unfold State.sample; split <;> simp
@[simp] theorem State.sample_link_sending (s : State) (c : Chan) (v : Int) : (s.sample c v).link.sending = s.link.sending := by
  unfold State.sample; split <;> simp
@[simp] theorem State.sample_link_waiting (s : State) (c : Chan) (v : Int) : (s.sample c v).link.waiting = s.link.waiting := by
  unfold State.sample; split <;> simp
@[simp] theorem State.sample_link_enableMask (s : State) (c : Chan) (v : Int) : (s.sample c v).link.enableMask = s.link.enableMask := by
  unfold State.sample; split <;> simp
@[simp] theorem State.sample_link_watermark (s : State) (c : Chan) (v : Int) : (s.sample c v).link.watermark = s.link.watermark := by
  unfold State.sample; split <;> simp
@[simp] theorem State.sample_disp_paused (s : State) (c : Chan) (v : Int) : (s.sample c v).disp.paused = s.disp.paused := by
  unfold State.sample; split <;> simp
@[simp] theorem State.sample_disp_starved (s : State) (c : Chan) (v : Int) : (s.sample c v).disp.starved = s.disp.starved := by
  unfold State.sample; split <;> simp
@[simp] theorem State.sample_run_enabled (s : State) (c : Chan) (v : Int) : (s.sample c v).run.enabled = s.run.enabled := by
  unfold State.sample; split <;> simp
@[simp] theorem State.sample_run_vac (s : State) (c : Chan) (v : Int) : (s.sample c v).run.vac = s.run.vac := by
  unfold State.sample; split <;> simp
@[simp] theorem State.sample_run_lid (s : State) (c : Chan) (v : Int) : (s.sample c v).run.lid = s.run.lid := by
  unfold State.sample; split <;> simp
@[simp] theorem State.sample_run_outputs (s : State) (c : Chan) (v : Int) : (s.sample c v).run.outputs = s.run.outputs := by
  unfold State.sample; split <;> simp
@[simp] theorem State.sample_relays_tOp (s : State) (c : Chan) (v : Int) : (s.sample c v).relays.tOp = s.relays.tOp := by
  unfold State.sample; split <;> simp
@[simp] theorem State.sample_relays_tRel (s : State) (c : Chan) (v : Int) : (s.sample c v).relays.tRel = s.relays.tRel := by
  unfold State.sample; split <;> simp
@[simp] theorem State.sample_sites_count (s : State) (c : Chan) (v : Int) : (s.sample c v).sites.count = s.sites.count := by
  unfold State.sample; split <;> simp

@[simp] theorem State.sampleIf_time (s : State) (c : Chan) (v : Int) (w : SampleKind) : (s.sampleIf c v w).time = s.time := by
  unfold State.sampleIf; split <;> simp
@[simp] theorem State.sampleIf_tickTaken (s : State) (c : Chan) (v : Int) (w : SampleKind) : (s.sampleIf c v w).tickTaken = s.tickTaken := by
  unfold State.sampleIf; split <;> simp
@[simp] theorem State.sampleIf_pending (s : State) (c : Chan) (v : Int) (w : SampleKind) : (s.sampleIf c v w).pending = s.pending := by
  unfold State.sampleIf; split <;> simp
@[simp] theorem State.sampleIf_link_receiver (s : State) (c : Chan) (v : Int) (w : SampleKind) : (s.sampleIf c v w).link.receiver = s.link.receiver := by
  unfold State.sampleIf; split <;> simp
@[simp] theorem State.sampleIf_link_slot (s : State) (c : Chan) (v : Int) (w : SampleKind) : (s.sampleIf c v w).link.slot = s.link.slot := by
  unfold State.sampleIf; split <;> simp
@[simp] theorem State.sampleIf_link_fault (s : State) (c : Chan) (v : Int) (w : SampleKind) : (s.sampleIf c v w).link.fault = s.link.fault := by
  unfold State.sampleIf; split <;> simp
@[simp] theorem State.sampleIf_link_errorCount (s : State) (c : Chan) (v : Int) (w : SampleKind) : (s.sampleIf c v w).link.errorCount = s.link.errorCount := by
  unfold State.sampleIf; split <;> simp
@[simp] theorem State.sampleIf_link_sending (s : State) (c : Chan) (v : Int) (w : SampleKind) : (s.sampleIf c v w).link.sending = s.link.sending := by
  unfold State.sampleIf; split <;> simp
@[simp] theorem State.sampleIf_link_waiting (s : State) (c : Chan) (v : Int) (w : SampleKind) : (s.sampleIf c v w).link.waiting = s.link.waiting := by
  unfold State.sampleIf; split <;> simp
@[simp] theorem State.sampleIf_link_enableMask (s : State) (c : Chan) (v : Int) (w : SampleKind) : (s.sampleIf c v w).link.enableMask = s.link.enableMask := by
  unfold State.sampleIf; split <;> simp
@[simp] theorem State.sampleIf_link_watermark (s : State) (c : Chan) (v : Int) (w : SampleKind) : (s.sampleIf c v w).link.watermark = s.link.watermark := by
  unfold State.sampleIf; split <;> simp
@[simp] theorem State.sampleIf_disp_paused (s : State) (c : Chan) (v : Int) (w : SampleKind) : (s.sampleIf c v w).disp.paused = s.disp.paused := by
  unfold State.sampleIf; split <;> simp
@[simp] theorem State.sampleIf_disp_starved (s : State) (c : Chan) (v : Int) (w : SampleKind) : (s.sampleIf c v w).disp.starved = s.disp.starved := by
  unfold State.sampleIf; split <;> simp
@[simp] theorem State.sampleIf_run_enabled (s : State) (c : Chan) (v : Int) (w : SampleKind) : (s.sampleIf c v w).run.enabled = s.run.enabled := by
  unfold State.sampleIf; split <;> simp
@[simp] theorem State.sampleIf_run_vac (s : State) (c : Chan) (v : Int) (w : SampleKind) : (s.sampleIf c v w).run.vac = s.run.vac := by
  unfold State.sampleIf; split <;> simp
@[simp] theorem State.sampleIf_run_lid (s : State) (c : Chan) (v : Int) (w : SampleKind) : (s.sampleIf c v w).run.lid = s.run.lid := by
  unfold State.sampleIf; split <;> simp
@[simp] theorem State.sampleIf_run_outputs (s : State) (c : Chan) (v : Int) (w : SampleKind) : (s.sampleIf c v w).run.outputs = s.run.outputs := by
  unfold State.sampleIf; split <;> simp
@[simp] theorem State.sampleIf_relays_tOp (s : State) (c : Chan) (v : Int) (w : SampleKind) : (s.sampleIf c v w).relays.tOp = s.relays.tOp := by
  unfold State.sampleIf; split <;> simp
@[simp] theorem State.sampleIf_relays_tRel (s : State) (c : Chan) (v : Int) (w : SampleKind) : (s.sampleIf c v w).relays.tRel = s.relays.tRel := by
  unfold State.sampleIf; split <;> simp
@[simp] theorem State.sampleIf_sites_count (s : State) (c : Chan) (v : Int) (w : SampleKind) : (s.sampleIf c v w).sites.count = s.sites.count := by
  unfold State.sampleIf; split <;> simp

@[simp] theorem State.grantPost_time (s : State) (c : Chan) : (s.grantPost c).time = s.time := by
  unfold State.grantPost; (repeat' split) <;> simp
@[simp] theorem State.grantPost_tickTaken (s : State) (c : Chan) : (s.grantPost c).tickTaken = s.tickTaken := by
  unfold State.grantPost; (repeat' split) <;> simp
@[simp] theorem State.grantPost_pending (s : State) (c : Chan) : (s.grantPost c).pending = s.pending := by
  unfold State.grantPost; (repeat' split) <;> simp
@[simp] theorem State.grantPost_link_receiver (s : State) (c : Chan) : (s.grantPost c).link.receiver = s.link.receiver := by
  unfold State.grantPost; (repeat' split) <;> simp
@[simp] theorem State.grantPost_link_slot (s : State) (c : Chan) : (s.grantPost c).link.slot = s.link.slot := by
  unfold State.grantPost; (repeat' split) <;> simp
@[simp] theorem State.grantPost_link_fault (s : State) (c : Chan) : (s.grantPost c).link.fault = s.link.fault := by
  unfold State.grantPost; (repeat' split) <;> simp
@[simp] theorem State.grantPost_link_errorCount (s : State) (c : Chan) : (s.grantPost c).link.errorCount = s.link.errorCount := by
  unfold State.grantPost; (repeat' split) <;> simp
@[simp] theorem State.grantPost_link_sending (s : State) (c : Chan) : (s.grantPost c).link.sending = s.link.sending := by
  unfold State.grantPost; (repeat' split) <;> simp
@[simp] theorem State.grantPost_link_waiting (s : State) (c : Chan) : (s.grantPost c).link.waiting = s.link.waiting := by
  unfold State.grantPost; (repeat' split) <;> simp
@[simp] theorem State.grantPost_link_enableMask (s : State) (c : Chan) : (s.grantPost c).link.enableMask = s.link.enableMask := by
  unfold State.grantPost; (repeat' split) <;> simp
@[simp] theorem State.grantPost_link_watermark (s : State) (c : Chan) : (s.grantPost c).link.watermark = s.link.watermark := by
  unfold State.grantPost; (repeat' split) <;> simp
@[simp] theorem State.grantPost_disp_paused (s : State) (c : Chan) : (s.grantPost c).disp.paused = s.disp.paused := by
  unfold State.grantPost; (repeat' split) <;> simp
@[simp] theorem State.grantPost_disp_starved (s : State) (c : Chan) : (s.grantPost c).disp.starved = s.disp.starved := by
  unfold State.grantPost; (repeat' split) <;> simp
@[simp] theorem State.grantPost_run_enabled (s : State) (c : Chan) : (s.grantPost c).run.enabled = s.run.enabled := by
  unfold State.grantPost; (repeat' split) <;> simp
@[simp] theorem State.grantPost_run_vac (s : State) (c : Chan) : (s.grantPost c).run.vac = s.run.vac := by
  unfold State.grantPost; (repeat' split) <;> simp
@[simp] theorem State.grantPost_run_lid (s : State) (c : Chan) : (s.grantPost c).run.lid = s.run.lid := by
  unfold State.grantPost; (repeat' split) <;> simp
@[simp] theorem State.grantPost_run_outputs (s : State) (c : Chan) : (s.grantPost c).run.outputs = s.run.outputs := by
  unfold State.grantPost; (repeat' split) <;> simp
@[simp] theorem State.grantPost_relays_tOp (s : State) (c : Chan) : (s.grantPost c).relays.tOp = s.relays.tOp := by
  unfold State.grantPost; (repeat' split) <;> simp
@[simp] theorem State.grantPost_relays_tRel (s : State) (c : Chan) : (s.grantPost c).relays.tRel = s.relays.tRel := by
  unfold State.grantPost; (repeat' split) <;> simp
@[simp] theorem State.grantPost_sites_count (s : State) (c : Chan) : (s.grantPost c).sites.count = s.sites.count := by
  unfold State.grantPost; (repeat' split) <;> simp

@[simp] theorem State.grantPosts_time (s : State) : (s.grantPosts).time = s.time := by
  exact foldl_keep _ State.time (by simp) _ s
@[simp] theorem State.grantPosts_tickTaken (s : State) : (s.grantPosts).tickTaken = s.tickTaken := by
  exact foldl_keep _ State.tickTaken (by simp) _ s
@[simp] theorem State.grantPosts_pending (s : State) : (s.grantPosts).pending = s.pending := by
  exact foldl_keep _ State.pending (by simp) _ s
@[simp] theorem State.grantPosts_link_receiver (s : State) : (s.grantPosts).link.receiver = s.link.receiver := by
  exact foldl_keep _ (fun t : State => t.link.receiver) (by simp) _ s
@[simp] theorem State.grantPosts_link_slot (s : State) : (s.grantPosts).link.slot = s.link.slot := by
  exact foldl_keep _ (fun t : State => t.link.slot) (by simp) _ s
@[simp] theorem State.grantPosts_link_fault (s : State) : (s.grantPosts).link.fault = s.link.fault := by
  exact foldl_keep _ (fun t : State => t.link.fault) (by simp) _ s
@[simp] theorem State.grantPosts_link_errorCount (s : State) : (s.grantPosts).link.errorCount = s.link.errorCount := by
  exact foldl_keep _ (fun t : State => t.link.errorCount) (by simp) _ s
@[simp] theorem State.grantPosts_link_sending (s : State) : (s.grantPosts).link.sending = s.link.sending := by
  exact foldl_keep _ (fun t : State => t.link.sending) (by simp) _ s
@[simp] theorem State.grantPosts_link_waiting (s : State) : (s.grantPosts).link.waiting = s.link.waiting := by
  exact foldl_keep _ (fun t : State => t.link.waiting) (by simp) _ s
@[simp] theorem State.grantPosts_link_enableMask (s : State) : (s.grantPosts).link.enableMask = s.link.enableMask := by
  exact foldl_keep _ (fun t : State => t.link.enableMask) (by simp) _ s
@[simp] theorem State.grantPosts_link_watermark (s : State) : (s.grantPosts).link.watermark = s.link.watermark := by
  exact foldl_keep _ (fun t : State => t.link.watermark) (by simp) _ s
@[simp] theorem State.grantPosts_disp_paused (s : State) : (s.grantPosts).disp.paused = s.disp.paused := by
  exact foldl_keep _ (fun t : State => t.disp.paused) (by simp) _ s
@[simp] theorem State.grantPosts_disp_starved (s : State) : (s.grantPosts).disp.starved = s.disp.starved := by
  exact foldl_keep _ (fun t : State => t.disp.starved) (by simp) _ s
@[simp] theorem State.grantPosts_run_enabled (s : State) : (s.grantPosts).run.enabled = s.run.enabled := by
  exact foldl_keep _ (fun t : State => t.run.enabled) (by simp) _ s
@[simp] theorem State.grantPosts_run_vac (s : State) : (s.grantPosts).run.vac = s.run.vac := by
  exact foldl_keep _ (fun t : State => t.run.vac) (by simp) _ s
@[simp] theorem State.grantPosts_run_lid (s : State) : (s.grantPosts).run.lid = s.run.lid := by
  exact foldl_keep _ (fun t : State => t.run.lid) (by simp) _ s
@[simp] theorem State.grantPosts_run_outputs (s : State) : (s.grantPosts).run.outputs = s.run.outputs := by
  exact foldl_keep _ (fun t : State => t.run.outputs) (by simp) _ s
@[simp] theorem State.grantPosts_relays_tOp (s : State) : (s.grantPosts).relays.tOp = s.relays.tOp := by
  exact foldl_keep _ (fun t : State => t.relays.tOp) (by simp) _ s
@[simp] theorem State.grantPosts_relays_tRel (s : State) : (s.grantPosts).relays.tRel = s.relays.tRel := by
  exact foldl_keep _ (fun t : State => t.relays.tRel) (by simp) _ s
@[simp] theorem State.grantPosts_sites_count (s : State) : (s.grantPosts).sites.count = s.sites.count := by
  exact foldl_keep _ (fun t : State => t.sites.count) (by simp) _ s

end Sys2Proof.Machine
end

