-- ==== Sys2Proof/Laws/Nodes.lean ====
section
/-! SUPPORT. The node table: what a read gives after each operation, and that every operation keeps the canonical
form. -/

namespace Sys2Proof.Machine

/-- Every listed node is above the bound. -/
def NodeTable.above (lo : Option Node) (t : NodeTable) : Prop := ∀ m, lo = some m → ∀ p ∈ t, m < p.1

theorem NodeTable.risingFrom_cons (lo : Option Node) (n : Node) (e : NodeEntry) (t : NodeTable) :
    NodeTable.risingFrom lo ((n, e) :: t) = true ↔
      (∀ m, lo = some m → m < n) ∧ e ≠ .reset ∧ NodeTable.risingFrom (some n) t = true := by
  cases lo <;> simp [NodeTable.risingFrom, and_assoc]

/-- In canonical form the listed nodes are above the bound. -/
theorem NodeTable.above_of_rising (t : NodeTable) : ∀ lo, NodeTable.risingFrom lo t = true → t.above lo := by
  induction t with
  | nil => intro lo _ m _ p hp; cases hp
  | cons q t ih =>
    obtain ⟨n, e⟩ := q
    intro lo h m hm p hp
    rw [NodeTable.risingFrom_cons] at h
    rcases List.mem_cons.1 hp with rfl | hp
    · exact h.1 m hm
    · exact lt_trans (h.1 m hm) (ih (some n) h.2.2 n rfl p hp)

/-- A weaker bound keeps the form. -/
theorem NodeTable.rising_weaken (t : NodeTable) (lo lo' : Option Node) (h : NodeTable.risingFrom lo t = true)
    (hb : ∀ m, lo' = some m → ∀ p ∈ t, m < p.1) : NodeTable.risingFrom lo' t = true := by
  cases t with
  | nil => rfl
  | cons q t =>
    obtain ⟨n, e⟩ := q
    rw [NodeTable.risingFrom_cons] at h ⊢
    exact ⟨fun m hm => hb m hm (n, e) (List.mem_cons_self ..), h.2⟩

/-- An unlisted node reads as power-on leaves it. -/
theorem NodeTable.get_of_not_mem (t : NodeTable) (n : Node) (h : ∀ p ∈ t, p.1 ≠ n) : t.get n = .reset := by
  induction t with
  | nil => rfl
  | cons q t ih =>
    obtain ⟨m, e⟩ := q
    have hm : m ≠ n := h (m, e) (List.mem_cons_self ..)
    simp only [NodeTable.get, if_neg hm]
    exact ih fun p hp => h p (List.mem_cons_of_mem _ hp)

/-- A read after a write gives the value written, and every other node reads as before. -/
theorem NodeTable.get_set_rising (t : NodeTable) (n k : Node) (e : NodeEntry) :
    ∀ lo, NodeTable.risingFrom lo t = true → (t.set n e).get k = if k = n then e else t.get k := by
  induction t with
  | nil =>
    intro lo _
    simp only [NodeTable.set]
    split
    · rename_i he; subst he; split <;> rfl
    · simp only [NodeTable.get]
      by_cases h : n = k
      · simp [h]
      · simp [h, Ne.symm h]
  | cons q t ih =>
    obtain ⟨m, f⟩ := q
    intro lo h
    rw [NodeTable.risingFrom_cons] at h
    have habove := NodeTable.above_of_rising t (some m) h.2.2 m rfl
    have hrest : ∀ k : Node, k ≤ m → NodeTable.get t k = .reset := fun k hk =>
      NodeTable.get_of_not_mem t k fun p hp hpk => absurd (hpk ▸ habove p hp) (Nat.not_lt.2 hk)
    simp only [NodeTable.set]
    split
    · rename_i hnm
      split
      · rename_i he
        by_cases hk : k = n
        · subst hk
          have : m ≠ k := Nat.ne_of_gt hnm
          simp [NodeTable.get, this, hrest k (Nat.le_of_lt hnm), he]
        · simp [hk]
      · by_cases hk : k = n
        · subst hk; simp [NodeTable.get]
        · simp [NodeTable.get, hk, Ne.symm hk]
    · split
      · rename_i hnm hmn
        subst hmn
        split
        · rename_i he
          by_cases hk : k = n
          · subst hk; simp [hrest k (le_refl _), he]
          · simp [NodeTable.get, hk, Ne.symm hk]
        · by_cases hk : k = n
          · subst hk; simp [NodeTable.get]
          · simp [NodeTable.get, hk, Ne.symm hk]
      · rename_i hnm hmn
        by_cases hk : m = k
        · subst hk
          simp [NodeTable.get, hmn, eq_comm]
        · simp only [NodeTable.get, if_neg hk]
          exact ih (some m) h.2.2

/-- A write keeps the canonical form. -/
theorem NodeTable.rising_set (t : NodeTable) (n : Node) (e : NodeEntry) :
    ∀ lo, NodeTable.risingFrom lo t = true → (∀ m, lo = some m → m < n) → NodeTable.risingFrom lo (t.set n e) = true := by
  induction t with
  | nil =>
    intro lo _ hlo
    simp only [NodeTable.set]
    split
    · rfl
    · rename_i he
      rw [NodeTable.risingFrom_cons]
      exact ⟨hlo, he, rfl⟩
  | cons q t ih =>
    obtain ⟨m, f⟩ := q
    intro lo h hlo
    have h0 := h
    rw [NodeTable.risingFrom_cons] at h
    simp only [NodeTable.set]
    split
    · rename_i hnm
      split
      · exact h0
      · rename_i he
        rw [NodeTable.risingFrom_cons]
        refine ⟨hlo, he, ?_⟩
        rw [NodeTable.risingFrom_cons]
        exact ⟨fun k hk => by cases hk; exact hnm, h.2⟩
    · split
      · rename_i hnm hmn
        subst hmn
        split
        · refine NodeTable.rising_weaken t (some n) lo h.2.2 fun k hk p hp => ?_
          exact lt_trans (h.1 k hk) (NodeTable.above_of_rising t (some n) h.2.2 n rfl p hp)
        · rename_i he
          rw [NodeTable.risingFrom_cons]
          exact ⟨h.1, he, h.2.2⟩
      · rename_i hnm hmn
        rw [NodeTable.risingFrom_cons]
        refine ⟨h.1, h.2.1, ih (some m) h.2.2 fun k hk => ?_⟩
        cases hk
        exact lt_of_le_of_ne (Nat.le_of_not_lt hnm) (Ne.symm hmn)

/-- A rewrite keeps the canonical form. -/
theorem NodeTable.rising_rewrite (f : Node → NodeEntry → NodeEntry) (t : NodeTable) :
    ∀ lo, NodeTable.risingFrom lo t = true → NodeTable.risingFrom lo (t.rewrite f) = true := by
  induction t with
  | nil => intro lo h; exact h
  | cons q t ih =>
    obtain ⟨n, e⟩ := q
    intro lo h
    rw [NodeTable.risingFrom_cons] at h
    have hrec := ih (some n) h.2.2
    by_cases he : f n e = .reset
    · have : NodeTable.rewrite f ((n, e) :: t) = NodeTable.rewrite f t := by
        simp [NodeTable.rewrite, he]
      rw [this]
      exact ih lo (NodeTable.rising_weaken t (some n) lo h.2.2 fun m hm p hp =>
        lt_trans (h.1 m hm) (NodeTable.above_of_rising t (some n) h.2.2 n rfl p hp))
    · have : NodeTable.rewrite f ((n, e) :: t) = (n, f n e) :: NodeTable.rewrite f t := by
        simp [NodeTable.rewrite, he]
      rw [this, NodeTable.risingFrom_cons]
      exact ⟨h.1, he, hrec⟩

/-- A read after a rewrite that leaves the reset entry as it is gives the entry rewritten. -/
theorem NodeTable.get_rewrite_rising (f : Node → NodeEntry → NodeEntry) (hf : ∀ n, f n .reset = .reset) (t : NodeTable)
    (k : Node) : ∀ lo, NodeTable.risingFrom lo t = true → (t.rewrite f).get k = f k (t.get k) := by
  induction t with
  | nil => intro lo _; simp [NodeTable.rewrite, NodeTable.get, hf]
  | cons q t ih =>
    obtain ⟨n, e⟩ := q
    intro lo h
    rw [NodeTable.risingFrom_cons] at h
    have hrec := ih (some n) h.2.2
    by_cases he : f n e = .reset
    · have : NodeTable.rewrite f ((n, e) :: t) = NodeTable.rewrite f t := by
        simp [NodeTable.rewrite, he]
      rw [this]
      by_cases hk : n = k
      · subst hk
        rw [hrec, NodeTable.get_of_not_mem t n fun p hp hpn =>
          absurd (hpn ▸ NodeTable.above_of_rising t (some n) h.2.2 n rfl p hp) (Nat.lt_irrefl _)]
        simp [NodeTable.get, he, hf]
      · simp only [NodeTable.get, if_neg hk]; exact hrec
    · have : NodeTable.rewrite f ((n, e) :: t) = (n, f n e) :: NodeTable.rewrite f t := by
        simp [NodeTable.rewrite, he]
      rw [this]
      by_cases hk : n = k
      · subst hk; simp [NodeTable.get]
      · simp only [NodeTable.get, if_neg hk]; exact hrec

/-! ## The same for a table in canonical form -/

theorem NodeTable.get_set {t : NodeTable} (h : t.wf = true) (n k : Node) (e : NodeEntry) :
    (t.set n e).get k = if k = n then e else t.get k := NodeTable.get_set_rising t n k e none h

theorem NodeTable.wf_set {t : NodeTable} (h : t.wf = true) (n : Node) (e : NodeEntry) : (t.set n e).wf = true :=
  NodeTable.rising_set t n e none h fun _ hm => by cases hm

theorem NodeTable.wf_setState {t : NodeTable} (h : t.wf = true) (n : Node) (x : NodeState) :
    (t.setState n x).wf = true := NodeTable.wf_set h n _

theorem NodeTable.get_setState {t : NodeTable} (h : t.wf = true) (n k : Node) (x : NodeState) :
    (t.setState n x).get k = if k = n then { t.get n with state := x } else t.get k := NodeTable.get_set h n k _

theorem NodeTable.wf_rewrite {t : NodeTable} (h : t.wf = true) (f : Node → NodeEntry → NodeEntry) :
    (t.rewrite f).wf = true := NodeTable.rising_rewrite f t none h

theorem NodeTable.get_rewrite {t : NodeTable} (h : t.wf = true) (f : Node → NodeEntry → NodeEntry)
    (hf : ∀ n, f n .reset = .reset) (k : Node) : (t.rewrite f).get k = f k (t.get k) :=
  NodeTable.get_rewrite_rising f hf t k none h

/-- A fold of operations that keep the canonical form keeps it. -/
theorem NodeTable.wf_foldl {α : Type} (g : NodeTable → α → NodeTable)
    (hg : ∀ t x, t.wf = true → (g t x).wf = true) (l : List α) :
    ∀ t : NodeTable, t.wf = true → (l.foldl g t).wf = true := by
  induction l with
  | nil => intro t h; exact h
  | cons x l ih => intro t h; exact ih _ (hg t x h)

/-- The entry a list position holds is the entry read for its node. -/
theorem NodeTable.get_of_mem_rising (t : NodeTable) (n : Node) (e : NodeEntry) :
    ∀ lo, NodeTable.risingFrom lo t = true → (n, e) ∈ t → t.get n = e := by
  induction t with
  | nil => intro lo _ h; cases h
  | cons q t ih =>
    obtain ⟨m, f⟩ := q
    intro lo h hm
    rw [NodeTable.risingFrom_cons] at h
    rcases List.mem_cons.1 hm with heq | hm
    · cases heq; simp [NodeTable.get]
    · have := NodeTable.above_of_rising t (some m) h.2.2 m rfl _ hm
      have hne : m ≠ n := Nat.ne_of_lt this
      simp only [NodeTable.get, if_neg hne]
      exact ih (some m) h.2.2 hm

theorem NodeTable.get_of_mem {t : NodeTable} (h : t.wf = true) {n : Node} {e : NodeEntry} (hm : (n, e) ∈ t) :
    t.get n = e := NodeTable.get_of_mem_rising t n e none h hm

/-- A node that does not read as power-on leaves it is listed. -/
theorem NodeTable.mem_of_get {t : NodeTable} {n : Node} (h : t.get n ≠ .reset) : (n, t.get n) ∈ t := by
  induction t with
  | nil => exact absurd rfl h
  | cons q t ih =>
    obtain ⟨m, f⟩ := q
    by_cases hm : m = n
    · subst hm; simp [NodeTable.get]
    · simp only [NodeTable.get, if_neg hm] at h ⊢
      exact List.mem_cons_of_mem _ (ih h)

/-- The nodes parked on a channel are those whose entry reads PARKED on it. -/
theorem NodeTable.mem_parkedOn {t : NodeTable} (h : t.wf = true) (c : Chan) (n : Node) (l : Line) :
    (n, l) ∈ t.parkedOn c ↔ t.state n = .parked c l := by
  unfold NodeTable.parkedOn NodeTable.state
  rw [List.mem_filterMap]
  constructor
  · rintro ⟨⟨m, e⟩, hm, hp⟩
    have hg := NodeTable.get_of_mem h hm
    revert hp
    cases hs : e.state <;> simp only
    all_goals intro hp
    all_goals try cases hp
    split at hp
    · rename_i d l' hd
      cases hp
      rw [hg, hs, hd]
    · cases hp
  · intro hs
    have hne : t.get n ≠ .reset := by
      intro h0; rw [h0] at hs; cases hs
    refine ⟨(n, t.get n), NodeTable.mem_of_get hne, ?_⟩
    simp [hs]

/-- The nodes held on a channel are those whose entry reads HELD on it. -/
theorem NodeTable.mem_heldOn {t : NodeTable} (h : t.wf = true) (c : Chan) (n : Node) (l : Line) :
    (n, l) ∈ t.heldOn c ↔ t.state n = .held c l := by
  unfold NodeTable.heldOn NodeTable.state
  rw [List.mem_filterMap]
  constructor
  · rintro ⟨⟨m, e⟩, hm, hp⟩
    have hg := NodeTable.get_of_mem h hm
    revert hp
    cases hs : e.state <;> simp only
    all_goals intro hp
    all_goals try cases hp
    split at hp
    · rename_i d l' hd
      cases hp
      rw [hg, hs, hd]
    · cases hp
  · intro hs
    have hne : t.get n ≠ .reset := by
      intro h0; rw [h0] at hs; cases hs
    refine ⟨(n, t.get n), NodeTable.mem_of_get hne, ?_⟩
    simp [hs]

end Sys2Proof.Machine
end

