-- ==== Sys2Proof/Laws/Service.lean ====
section
/-! SUPPORT. The station link's shared operations, each said once: raising a notice, the transmitter, and the service of a
request from its command to its reply. -/

namespace Sys2Proof.Machine

/-! ## Events -/

@[simp] theorem State.begin_time (s : State) : s.begin.time = s.time := rfl
@[simp] theorem State.begin_tickTaken (s : State) : s.begin.tickTaken = s.tickTaken := rfl
@[simp] theorem State.begin_plan (s : State) : s.begin.plan = s.plan := rfl
@[simp] theorem State.begin_sites (s : State) : s.begin.sites = s.sites := rfl
@[simp] theorem State.begin_disp (s : State) : s.begin.disp = s.disp := rfl
@[simp] theorem State.begin_relays (s : State) : s.begin.relays = { s.relays with drive := [] } := rfl
@[simp] theorem State.begin_chans (s : State) : s.begin.chans = s.chans := rfl
@[simp] theorem State.begin_results (s : State) : s.begin.results = s.results := rfl
@[simp] theorem State.begin_counters (s : State) : s.begin.counters = s.counters := rfl
@[simp] theorem State.begin_run (s : State) : s.begin.run = s.run := rfl
@[simp] theorem State.begin_link (s : State) : s.begin.link = s.link := rfl
@[simp] theorem State.begin_pending (s : State) : s.begin.pending = s.pending := rfl

@[simp] theorem State.withLink_self (s : State) : s.withLink s.link = s := rfl

theorem event_eq (f : State → State) (s : State) : event f s = .next (f s.begin).transmit := rfl

/-- A settled link starts no frame (R170). -/
theorem Link.startFrame_settled {l : Link} (h : l.settled) : l.startFrame = l := by
  unfold Link.startFrame
  split
  · rfl
  · rename_i hs
    have hn : l.sending = none := by
      cases hl : l.sending with
      | none => rfl
      | some o => rw [hl] at hs; simp at hs
    rcases h with h | ⟨hw, hd⟩
    · exact absurd hn h
    · have hr : l.sendReply = l := by unfold Link.sendReply; rw [hw]
      split
      · rename_i k ks hk
        rcases hd with hd | hf
        · rw [hd] at hk; cases hk
        · simp [hf, hr]
      · exact hr

/-- The transmitter leaves a settled state as it is. -/
theorem State.transmit_settled {s : State} (h : s.link.settled) : s.transmit = s := by
  unfold State.transmit; rw [Link.startFrame_settled h, State.withLink_self]

/-- After the transmitter has acted the link is settled. -/
theorem Link.settled_startFrame (l : Link) : l.startFrame.settled := by
  unfold Link.startFrame
  split
  · rename_i h
    left
    intro hn; rw [hn] at h; simp at h
  · have key : ∀ m : Link, m.sendReply.settled ∨ (m.waiting = none ∧ m.sendReply = m) := by
      intro m
      unfold Link.sendReply
      cases m.waiting with
      | some r => left; left; simp
      | none => right; exact ⟨rfl, rfl⟩
    split
    · rename_i k ks hk
      split
      · left; simp
      · rename_i hc
        rcases key l with h | ⟨hw, he⟩
        · exact h
        · rw [he]
          right
          refine ⟨hw, Or.inr ?_⟩
          have hr : l.resyncWaits = false := by simp [Link.resyncWaits, hw]
          simpa [hr] using hc
    · rename_i hk
      rcases key l with h | ⟨hw, he⟩
      · exact h
      · rw [he]; exact Or.inr ⟨hw, Or.inl hk⟩

/-! ## Requests -/

@[simp] theorem requestOf_requestCode (r : Request) : requestOf (requestCode r) = some r := by
  cases r <;> decide

theorem replyKind_eq (r : Request) : replyKind r = requestCode r + 0x80 := rfl

/-- Every request's command is its frame delivered (R165, R168). -/
theorem exec_command (r : Request) (tag : Byte) (p : List Byte) (s : State) :
    exec (r.command tag p) s = event (State.deliver { kind := requestCode r, tag := tag, payload := p }) s := by
  cases r <;> rfl

/-- A frame delivered to an empty slot with no reply outstanding is served at once (R168). -/
theorem State.deliver_ready {s : State} {f : Frame} (hp : f.payload.length ≤ 1024) (h : s.linkReady) :
    State.deliver f s = s.serveFrame f := by
  obtain ⟨h1, h2, h3⟩ := h
  have hready : s.link.ready = true := by
    unfold Link.ready
    rw [h2]
    cases hs : s.link.sending with
    | none => rfl
    | some o => simp [h3 o hs]
  have hslot : ({ { s.link with slot := some f } with slot := none } : Link) = s.link := by
    cases hl : s.link; simp_all
  have hr2 : Link.ready { s.link with slot := some f } = true := by
    simpa [Link.ready] using hready
  have h0 : State.deliver f s = (s.withLink { s.link with slot := some f }).serveSlot := by
    unfold State.deliver
    rw [if_neg (by simp [Config.maxPayload]; omega), if_neg (by simp [h1])]
  have hs1 : (s.withLink { s.link with slot := some f }).serveSlot =
      if Link.ready { s.link with slot := some f } = true then
        ((s.withLink { s.link with slot := some f }).withLink
          { { s.link with slot := some f } with slot := none }).serveFrame f
      else s.withLink { s.link with slot := some f } := rfl
  have h2 : (s.withLink { s.link with slot := some f }).withLink
      { { s.link with slot := some f } with slot := none } = s := by
    rw [hslot]; rfl
  rw [h0, hs1, if_pos hr2, h2]

/-- The service of a request on a link that is not faulted: its own checks and effect, and its reply (R168). -/
theorem State.serveFrame_request {s : State} (r : Request) (tag : Byte) (p : List Byte)
    (h : s.link.fault = false ∨ r = .resync) :
    s.serveFrame { kind := requestCode r, tag := tag, payload := p } =
      (handle r p s).state.formReply (requestCode r + 0x80) tag (handle r p s) := by
  unfold State.serveFrame
  simp only [requestOf_requestCode]
  rw [if_neg (by rcases h with h | h <;> simp [h])]
  rfl

/-- A reply formed on a link with nothing else to send goes out at once. -/
theorem State.transmit_formReply {s : State} (a : Answer) (kind tag : Byte)
    (hs : s.link.sending = none) (hw : s.link.waiting = none)
    (hd : s.link.due = [] ∨ s.link.fault = true ∨ kind = 0x82) :
    (s.formReply kind tag a).transmit = s.replyingMask kind tag a.status a.body a.newMask := by
  unfold State.transmit State.formReply State.replyingMask
  simp only [State.withLink_link]
  have : Link.startFrame { s.link with
      waiting := some
        { frame := { kind := kind, tag := tag, payload := statusCode a.status :: s.link.pendingSet :: a.body },
          newMask := a.newMask } } =
      { s.link with
        sending := some
          { isReply := true, newMask := a.newMask, frame := replyFrame kind tag a.status s.link.pendingSet a.body,
            wire := (replyFrame kind tag a.status s.link.pendingSet a.body).bytes } } := by
    unfold Link.startFrame
    simp only [hs]
    have hrep : Link.sendReply { s.link with
        waiting := some
          { frame := { kind := kind, tag := tag, payload := statusCode a.status :: s.link.pendingSet :: a.body },
            newMask := a.newMask } } =
        { s.link with
          sending := some
            { isReply := true, newMask := a.newMask, frame := replyFrame kind tag a.status s.link.pendingSet a.body,
              wire := (replyFrame kind tag a.status s.link.pendingSet a.body).bytes } } := by
      unfold Link.sendReply
      cases hl : s.link
      simp_all [replyFrame]
    have hb : ∀ k ks, s.link.due = k :: ks →
        (!s.link.fault && !(Link.resyncWaits { s.link with
          waiting := some
            { frame := { kind := kind, tag := tag, payload := statusCode a.status :: s.link.pendingSet :: a.body },
              newMask := a.newMask } })) = false := by
      intro k ks hk
      rcases hd with h | h | h
      · rw [h] at hk; cases hk
      · simp [h]
      · simp [Link.resyncWaits, h, resyncReplyKind]
    split
    · rename_i h; simp at h
    · split
      · rename_i k ks hk
        rw [if_neg (by have := hb k ks hk; simpa [Link.resyncWaits, hs] using this)]
        exact hrep
      · exact hrep
  rw [this]
  rfl

/-- A request served on an open link: its answer's state with the reply going out, where serving it has made no notice
due. -/
theorem exec_served {s : State} (r : Request) (tag : Byte) (p : List Byte) (hp : p.length ≤ 1024) (h : s.linkOpen)
    (ha : (handle r p s.begin).state.link.sending = none) (hw : (handle r p s.begin).state.link.waiting = none)
    (hd : (handle r p s.begin).state.link.due = []) :
    exec (r.command tag p) s =
      .next ((handle r p s.begin).state.replyingMask (requestCode r + 0x80) tag (handle r p s.begin).status
        (handle r p s.begin).body (handle r p s.begin).newMask) := by
  obtain ⟨h1, h2, h3, h4, h5⟩ := h
  rw [exec_command, event_eq, State.deliver_ready (s := s.begin) hp ⟨h1, h2, fun o ho => by
    rw [State.begin_link, h3] at ho; cases ho⟩, State.serveFrame_request (s := s.begin) r tag p (Or.inl h5)]
  rw [State.transmit_formReply _ _ _ ha hw (Or.inl hd)]

/-- The same where serving has made a notice due: the reply is on the link, going out or waiting behind the notice. -/
theorem State.transmit_hasReply (s : State) (a : Answer) (kind tag : Byte) :
    ((s.formReply kind tag a).transmit).hasReply kind tag a.status a.body a.newMask ∧
      (s.link.sending ≠ none → ((s.formReply kind tag a).transmit).link.sending = s.link.sending) ∧
      ((s.formReply kind tag a).transmit).link.slot = s.link.slot ∧
      ((s.formReply kind tag a).transmit).link.pendingSet = s.link.pendingSet := by
  unfold State.hasReply State.transmit State.formReply
  simp only [State.withLink_link]
  unfold Link.startFrame
  simp only
  cases hs : s.link.sending with
  | some o => simp [replyFrame]
  | none =>
    simp only [Option.isSome_none, Bool.false_eq_true, if_false]
    split
    · split
      · simp [replyFrame]
      · simp [Link.sendReply, replyFrame]
    · simp [Link.sendReply, replyFrame]

/-- A request served at once leaves the state its answer gives, but for the link. -/
theorem exec_served_link {s : State} (r : Request) (tag : Byte) (p : List Byte) (hp : p.length ≤ 1024)
    (h : s.linkReady) (hf : s.link.fault = false ∨ r = .resync) :
    ∃ l, exec (r.command tag p) s = .next ((handle r p s.begin).state.withLink l) ∧
      (((handle r p s.begin).state.formReply (requestCode r + 0x80) tag (handle r p s.begin)).transmit).link = l := by
  refine ⟨_, ?_, rfl⟩
  rw [exec_command, event_eq, State.deliver_ready (s := s.begin) hp h, State.serveFrame_request (s := s.begin) r tag p hf]
  rfl

end Sys2Proof.Machine
end

