-- ==== Sys2Proof/Laws/Requests.lean ====
section
/-! SUPPORT. What serving a request leaves unchanged, whichever request it is, and that every command is an event. -/

namespace Sys2Proof.Machine

/-- Every command is one event: the drive output cleared, its effect, the transmitter (log entry 10). -/
theorem exec_is_event (c : Instr) (s : State) : ∃ f : State → State, exec c s = event f s := by
  cases c
  case channelSample ch code => exact ⟨fun t => t.sample ch code.toInt, rfl⟩
  case deadlineExpiry ch code => exact ⟨fun t => t.sampleIf ch code.toInt .expire, rfl⟩
  case settled ch code => exact ⟨fun t => t.sampleIf ch code.toInt .settle, rfl⟩
  case acquisitionComplete ch code => exact ⟨fun t => t.sampleIf ch code.toInt .complete, rfl⟩
  case senseLineChange line present =>
    exact ⟨fun t => t.withSense line ((t.sense line).change present t.time), rfl⟩
  case powerOn v l => exact ⟨fun t => (State.powerOn v l).withPending t.pending, rfl⟩
  case qualificationExpiry line =>
    exact ⟨fun t => if (t.sense line).qualified t.time then t.setLatch line else t, rfl⟩
  case dwellComplete ch => exact ⟨fun t => t.sampleIf ch 0 .dwellDone, rfl⟩
  case fetchAppend => exact ⟨fun t => if t.canMake then t.fetchMake.closeEvent else t, rfl⟩
  case operateExpiry ch => exact ⟨fun t => if t.batchDue ch then t.operateExpiry ch else t, rfl⟩
  case releaseEntryExpiry => exact ⟨fun t => if t.entryDue then t.releaseExpiry else t, rfl⟩
  case gapTimerExpiry => exact ⟨fun t => if t.gapExpired then t.withLink t.link.frameError else t, rfl⟩
  case monitorTick =>
    exact ⟨fun t => if t.tickDue then ({ t with tickTaken := true } : State).tickCounters.closeEvent else t, rfl⟩
  case bankDone b => exact ⟨fun t => t.drainIfDone b, rfl⟩
  all_goals exact ⟨_, rfl⟩

@[simp] theorem State.setLatch_time (s : State) (l : SenseLine) : (s.setLatch l).time = s.time := by
  cases l <;> simp [State.setLatch, State.withSense]
@[simp] theorem State.clearLatch_time (s : State) (l : SenseLine) : (s.clearLatch l).time = s.time := by
  unfold State.clearLatch; (repeat' split) <;> cases l <;> simp [State.withSense]
@[simp] theorem State.resetBlocks_time (s : State) : s.resetBlocks.time = s.time := rfl
@[simp] theorem State.feed_time (s : State) (w : BankId) : (s.feed w).time = s.time := by
  unfold State.feed; split <;> simp
@[simp] theorem State.startRun_time (s : State) (m : Byte) : (s.startRun m).time = s.time := by
  simp [State.startRun]
@[simp] theorem State.stationRetire_time (s : State) (i : Fin 8) : (s.stationRetire i).time = s.time := by
  unfold State.stationRetire; split <;> simp
@[simp] theorem State.setLatch_tickTaken (s : State) (l : SenseLine) : (s.setLatch l).tickTaken = s.tickTaken := by
  cases l <;> simp [State.setLatch, State.withSense]
@[simp] theorem State.clearLatch_tickTaken (s : State) (l : SenseLine) : (s.clearLatch l).tickTaken = s.tickTaken := by
  unfold State.clearLatch; (repeat' split) <;> cases l <;> simp [State.withSense]
@[simp] theorem State.resetBlocks_tickTaken (s : State) : s.resetBlocks.tickTaken = s.tickTaken := rfl
@[simp] theorem State.feed_tickTaken (s : State) (w : BankId) : (s.feed w).tickTaken = s.tickTaken := by
  unfold State.feed; split <;> simp
@[simp] theorem State.startRun_tickTaken (s : State) (m : Byte) : (s.startRun m).tickTaken = s.tickTaken := by
  simp [State.startRun]
@[simp] theorem State.stationRetire_tickTaken (s : State) (i : Fin 8) : (s.stationRetire i).tickTaken = s.tickTaken := by
  unfold State.stationRetire; split <;> simp
@[simp] theorem State.setLatch_pending (s : State) (l : SenseLine) : (s.setLatch l).pending = s.pending := by
  cases l <;> simp [State.setLatch, State.withSense]
@[simp] theorem State.clearLatch_pending (s : State) (l : SenseLine) : (s.clearLatch l).pending = s.pending := by
  unfold State.clearLatch; (repeat' split) <;> cases l <;> simp [State.withSense]
@[simp] theorem State.resetBlocks_pending (s : State) : s.resetBlocks.pending = s.pending := rfl
@[simp] theorem State.feed_pending (s : State) (w : BankId) : (s.feed w).pending = s.pending := by
  unfold State.feed; split <;> simp
@[simp] theorem State.startRun_pending (s : State) (m : Byte) : (s.startRun m).pending = s.pending := by
  simp [State.startRun]
@[simp] theorem State.stationRetire_pending (s : State) (i : Fin 8) : (s.stationRetire i).pending = s.pending := by
  unfold State.stationRetire; split <;> simp
@[simp] theorem State.setLatch_link_receiver (s : State) (l : SenseLine) : (s.setLatch l).link.receiver = s.link.receiver := by
  cases l <;> simp [State.setLatch, State.withSense]
@[simp] theorem State.clearLatch_link_receiver (s : State) (l : SenseLine) : (s.clearLatch l).link.receiver = s.link.receiver := by
  unfold State.clearLatch; (repeat' split) <;> cases l <;> simp [State.withSense]
@[simp] theorem State.resetBlocks_link_receiver (s : State) : s.resetBlocks.link.receiver = s.link.receiver := rfl
@[simp] theorem State.feed_link_receiver (s : State) (w : BankId) : (s.feed w).link.receiver = s.link.receiver := by
  unfold State.feed; split <;> simp
@[simp] theorem State.startRun_link_receiver (s : State) (m : Byte) : (s.startRun m).link.receiver = s.link.receiver := by
  simp [State.startRun]
@[simp] theorem State.stationRetire_link_receiver (s : State) (i : Fin 8) : (s.stationRetire i).link.receiver = s.link.receiver := by
  unfold State.stationRetire; split <;> simp
@[simp] theorem State.setLatch_link_slot (s : State) (l : SenseLine) : (s.setLatch l).link.slot = s.link.slot := by
  cases l <;> simp [State.setLatch, State.withSense]
@[simp] theorem State.clearLatch_link_slot (s : State) (l : SenseLine) : (s.clearLatch l).link.slot = s.link.slot := by
  unfold State.clearLatch; (repeat' split) <;> cases l <;> simp [State.withSense]
@[simp] theorem State.resetBlocks_link_slot (s : State) : s.resetBlocks.link.slot = s.link.slot := rfl
@[simp] theorem State.feed_link_slot (s : State) (w : BankId) : (s.feed w).link.slot = s.link.slot := by
  unfold State.feed; split <;> simp
@[simp] theorem State.startRun_link_slot (s : State) (m : Byte) : (s.startRun m).link.slot = s.link.slot := by
  simp [State.startRun]
@[simp] theorem State.stationRetire_link_slot (s : State) (i : Fin 8) : (s.stationRetire i).link.slot = s.link.slot := by
  unfold State.stationRetire; split <;> simp
@[simp] theorem State.setLatch_link_sending (s : State) (l : SenseLine) : (s.setLatch l).link.sending = s.link.sending := by
  cases l <;> simp [State.setLatch, State.withSense]
@[simp] theorem State.clearLatch_link_sending (s : State) (l : SenseLine) : (s.clearLatch l).link.sending = s.link.sending := by
  unfold State.clearLatch; (repeat' split) <;> cases l <;> simp [State.withSense]
@[simp] theorem State.resetBlocks_link_sending (s : State) : s.resetBlocks.link.sending = s.link.sending := rfl
@[simp] theorem State.feed_link_sending (s : State) (w : BankId) : (s.feed w).link.sending = s.link.sending := by
  unfold State.feed; split <;> simp
@[simp] theorem State.startRun_link_sending (s : State) (m : Byte) : (s.startRun m).link.sending = s.link.sending := by
  simp [State.startRun]
@[simp] theorem State.stationRetire_link_sending (s : State) (i : Fin 8) : (s.stationRetire i).link.sending = s.link.sending := by
  unfold State.stationRetire; split <;> simp
@[simp] theorem State.setLatch_link_waiting (s : State) (l : SenseLine) : (s.setLatch l).link.waiting = s.link.waiting := by
  cases l <;> simp [State.setLatch, State.withSense]
@[simp] theorem State.clearLatch_link_waiting (s : State) (l : SenseLine) : (s.clearLatch l).link.waiting = s.link.waiting := by
  unfold State.clearLatch; (repeat' split) <;> cases l <;> simp [State.withSense]
@[simp] theorem State.resetBlocks_link_waiting (s : State) : s.resetBlocks.link.waiting = s.link.waiting := rfl
@[simp] theorem State.feed_link_waiting (s : State) (w : BankId) : (s.feed w).link.waiting = s.link.waiting := by
  unfold State.feed; split <;> simp
@[simp] theorem State.startRun_link_waiting (s : State) (m : Byte) : (s.startRun m).link.waiting = s.link.waiting := by
  simp [State.startRun]
@[simp] theorem State.stationRetire_link_waiting (s : State) (i : Fin 8) : (s.stationRetire i).link.waiting = s.link.waiting := by
  unfold State.stationRetire; split <;> simp

/-- Serving a request leaves this field as it is. -/
@[simp] theorem handle_time (r : Request) (p : List Byte) (s : State) : (handle r p s).state.time = s.time := by
  cases r <;> simp only [handle, serveReadStatus, serveResync, serveResetPart, serveSetTiming, serveSetSites, serveSetChannels, serveSetNotices, serveClearNotice, serveSetOutputs, serveClearInterlock, serveLoadSteps, serveArmBank, serveClearBank, serveStartRun, servePauseRun, serveResumeRun, serveAbortRun, serveEndRun, serveRetireSite, serveReadResults, serveReadNodes, serveClearCloseCounts, serveSetCounter, serveReadCounters, serveClearOverflow, serveFreezeCounters] <;> (repeat' split) <;>
    simp [refuse, accept, State.pause, State.resume, State.endRun, State.removeRecords, State.setCounter, State.clearFlags, State.clearNotices]

/-- Serving a request leaves this field as it is. -/
@[simp] theorem handle_tickTaken (r : Request) (p : List Byte) (s : State) : (handle r p s).state.tickTaken = s.tickTaken := by
  cases r <;> simp only [handle, serveReadStatus, serveResync, serveResetPart, serveSetTiming, serveSetSites, serveSetChannels, serveSetNotices, serveClearNotice, serveSetOutputs, serveClearInterlock, serveLoadSteps, serveArmBank, serveClearBank, serveStartRun, servePauseRun, serveResumeRun, serveAbortRun, serveEndRun, serveRetireSite, serveReadResults, serveReadNodes, serveClearCloseCounts, serveSetCounter, serveReadCounters, serveClearOverflow, serveFreezeCounters] <;> (repeat' split) <;>
    simp [refuse, accept, State.pause, State.resume, State.endRun, State.removeRecords, State.setCounter, State.clearFlags, State.clearNotices]

/-- Serving a request leaves this field as it is. -/
@[simp] theorem handle_pending (r : Request) (p : List Byte) (s : State) : (handle r p s).state.pending = s.pending := by
  cases r <;> simp only [handle, serveReadStatus, serveResync, serveResetPart, serveSetTiming, serveSetSites, serveSetChannels, serveSetNotices, serveClearNotice, serveSetOutputs, serveClearInterlock, serveLoadSteps, serveArmBank, serveClearBank, serveStartRun, servePauseRun, serveResumeRun, serveAbortRun, serveEndRun, serveRetireSite, serveReadResults, serveReadNodes, serveClearCloseCounts, serveSetCounter, serveReadCounters, serveClearOverflow, serveFreezeCounters] <;> (repeat' split) <;>
    simp [refuse, accept, State.pause, State.resume, State.endRun, State.removeRecords, State.setCounter, State.clearFlags, State.clearNotices]

/-- Serving a request leaves this field as it is. -/
@[simp] theorem handle_link_receiver (r : Request) (p : List Byte) (s : State) : (handle r p s).state.link.receiver = s.link.receiver := by
  cases r <;> simp only [handle, serveReadStatus, serveResync, serveResetPart, serveSetTiming, serveSetSites, serveSetChannels, serveSetNotices, serveClearNotice, serveSetOutputs, serveClearInterlock, serveLoadSteps, serveArmBank, serveClearBank, serveStartRun, servePauseRun, serveResumeRun, serveAbortRun, serveEndRun, serveRetireSite, serveReadResults, serveReadNodes, serveClearCloseCounts, serveSetCounter, serveReadCounters, serveClearOverflow, serveFreezeCounters] <;> (repeat' split) <;>
    simp [refuse, accept, State.pause, State.resume, State.endRun, State.removeRecords, State.setCounter, State.clearFlags, State.clearNotices]

/-- Serving a request leaves this field as it is. -/
@[simp] theorem handle_link_slot (r : Request) (p : List Byte) (s : State) : (handle r p s).state.link.slot = s.link.slot := by
  cases r <;> simp only [handle, serveReadStatus, serveResync, serveResetPart, serveSetTiming, serveSetSites, serveSetChannels, serveSetNotices, serveClearNotice, serveSetOutputs, serveClearInterlock, serveLoadSteps, serveArmBank, serveClearBank, serveStartRun, servePauseRun, serveResumeRun, serveAbortRun, serveEndRun, serveRetireSite, serveReadResults, serveReadNodes, serveClearCloseCounts, serveSetCounter, serveReadCounters, serveClearOverflow, serveFreezeCounters] <;> (repeat' split) <;>
    simp [refuse, accept, State.pause, State.resume, State.endRun, State.removeRecords, State.setCounter, State.clearFlags, State.clearNotices]

/-- Serving a request leaves this field as it is. -/
@[simp] theorem handle_link_sending (r : Request) (p : List Byte) (s : State) : (handle r p s).state.link.sending = s.link.sending := by
  cases r <;> simp only [handle, serveReadStatus, serveResync, serveResetPart, serveSetTiming, serveSetSites, serveSetChannels, serveSetNotices, serveClearNotice, serveSetOutputs, serveClearInterlock, serveLoadSteps, serveArmBank, serveClearBank, serveStartRun, servePauseRun, serveResumeRun, serveAbortRun, serveEndRun, serveRetireSite, serveReadResults, serveReadNodes, serveClearCloseCounts, serveSetCounter, serveReadCounters, serveClearOverflow, serveFreezeCounters] <;> (repeat' split) <;>
    simp [refuse, accept, State.pause, State.resume, State.endRun, State.removeRecords, State.setCounter, State.clearFlags, State.clearNotices]

/-- Serving a request leaves this field as it is. -/
@[simp] theorem handle_link_waiting (r : Request) (p : List Byte) (s : State) : (handle r p s).state.link.waiting = s.link.waiting := by
  cases r <;> simp only [handle, serveReadStatus, serveResync, serveResetPart, serveSetTiming, serveSetSites, serveSetChannels, serveSetNotices, serveClearNotice, serveSetOutputs, serveClearInterlock, serveLoadSteps, serveArmBank, serveClearBank, serveStartRun, servePauseRun, serveResumeRun, serveAbortRun, serveEndRun, serveRetireSite, serveReadResults, serveReadNodes, serveClearCloseCounts, serveSetCounter, serveReadCounters, serveClearOverflow, serveFreezeCounters] <;> (repeat' split) <;>
    simp [refuse, accept, State.pause, State.resume, State.endRun, State.removeRecords, State.setCounter, State.clearFlags, State.clearNotices]

end Sys2Proof.Machine
end

