-- ==== Sys2Proof/Tests/Slice0.lean ====
section
/-! SUPPORT. Tests: the smoke tests of WellFormed, small tests against the worked examples and tables of spec/, and for
each obligation with hypotheses a state and operands that meet them (`meets_` with the obligation's name). -/

namespace Sys2Proof.Tests

open Sys2Proof Sys2Proof.Machine

/-! ## Helpers -/

/-- A state with frozen counters. -/
def still : State := State.reset.withCounters { State.reset.counters with frozen := true }

/-- A step record of site scope on nodes 1 and 2. -/
def step0 : StepRecord :=
  { label := 300, kind := .measure, scope := .site, barrier := false, hold := false, group := 2, range := 3,
    level := 1200, force := [1], ret := [2], guard := [], band := 20, dwell := 3, units := 2, prescale := 1,
    acquireExp := 1, resettleLimit := 1, retries := 0, null := 0, scale := 16384, scaleExp := 0, lo := 1000, hi := 1100 }

/-- Its instance for site 0. -/
def inst0 : Instance :=
  { bank := .a, stepIndex := 0, step := step0, site := .board 0, nodes := [(1, .forceLine), (2, .returnLine)],
    entered := 0 }

/-- A window entry of that instance. -/
def entry0 : WindowEntry := { inst := inst0, reason := .none, recallSet := [] }

/-- A channel's context with that instance. -/
def run0 (p : Phase) : Running := { inst := inst0, attempt := 1, phase := p }

/-- The same for another step. -/
def runOf (r : StepRecord) (p : Phase) : Running := { inst := { inst0 with step := r }, attempt := 1, phase := p }

/-- Channel 0 runs that context with a monitor. -/
def onZero (s : State) (k : Running) (m : Monitor) : State :=
  s.withChan 0 { s.chan 0 with running := some k, monitor := m }

/-- The state in an ACTIVE run, reading bank A at its first record. -/
def reading (s : State) (records : List StepRecord) (live : Nat) : State :=
  let t := (s.withRun { s.run with state := .active, enabled := 1 }).withPlan
    { s.plan with a := { state := .active, records := records, final := false, live := live } }
  ((t.setSiteState 0 .active).withDisp { t.disp with fetch := .reading .a 0 0 })

/-- The state with other nodes, release queue and wait list. -/
def relaysAs (s : State) (nodes : NodeTable) (queue : List ReleaseEntry) (wait : List WaitItem) : State :=
  s.withRelays { s.relays with nodes := nodes, queue := queue, waitList := wait }

/-- A node entry. -/
def node (n : Node) (x : NodeState) : Node × NodeEntry := (n, { state := x, closeCount := 1 })

/-- A release-queue entry. -/
def entryOf (owner : Chan) (cause : ReleaseCause) (nodes : List Node) : ReleaseEntry :=
  { owner := some owner, cause := cause, nodes := nodes, expiry := 0 }

/-- A release queue with that many entries. -/
def queueOf (n : Nat) : List ReleaseEntry := List.replicate n (entryOf 3 .complete [9])

/-- The state with that many records in the Result Queue. -/
def holding (s : State) (n : Nat) : State :=
  s.withResults { s.results with
    records := List.replicate n (judgedRecord 1 s (run0 .settling)
      { outcome := .pass, reading := none, clamped := false } 1 0 0) }

/-- Dispatch paused. -/
def pausedOf (s : State) : State := s.withDisp { s.disp with paused := true }

/-- The state with a reply being sent. -/
def sendingOf (s : State) (o : Outgoing) : State := s.withLink { s.link with sending := some o }

/-- A reply. -/
def reply0 : Outgoing :=
  { isReply := true, newMask := none, frame := { kind := 0x81, tag := 0, payload := [] }, wire := [] }

/-- A notice. -/
def notice0 : Outgoing := { reply0 with isReply := false }

/-- What a command leaves, seen through a function of the state. -/
def look {α : Type} (i : Instr) (s : State) (f : State → α) : Option α :=
  match exec i s with
  | .next t => some (f t)
  | .fault _ => none
  | .refused _ => none

/-- The payload of the frame being sent. -/
def sent (s : State) : List Byte := (s.link.sending.map fun o => o.frame.payload).getD []

/-! ## WellFormed -/

theorem test_payload_too_long : (Instr.readStatus 0 (List.replicate 1025 0)).wellFormed = false := by decide +kernel

theorem test_known_kind_is_not_unknown : (Instr.unknownKind 0x40 0 []).wellFormed = false := by decide

theorem test_well_formed : (Instr.unknownKind 0x04 0 []).wellFormed = true := by decide

/-! ## The link (chapters 10 and 11) -/

/-- R166: the check value of the nine ASCII bytes 123456789. -/
theorem test_crc : crc [0x31, 0x32, 0x33, 0x34, 0x35, 0x36, 0x37, 0x38, 0x39] = 0x29B1 := by decide +kernel

/-- Section 11.7: the bytes of READ_RESULTS 2 with tag 0x2A, before its CRC. -/
theorem test_frame_bytes :
    ({ kind := 0x40, tag := 0x2A, payload := [2] } : Frame).bytes.take 6 = [0xD5, 0x01, 0x00, 0x40, 0x2A, 0x02] := by
  decide

/-- R165: only START is taken in HUNTING. -/
theorem test_receive_byte_start :
    look (.receiveByte 0xD5) State.reset (fun t => t.link.receiver) = some (.inFrame [] 0) := by decide

/-- R167: a gap of 100 µs truncates a frame. -/
theorem test_gap_timer :
    look .gapTimerExpiry
        { State.reset with time := 100, link := { State.reset.link with receiver := .inFrame [1] 0 } }
        (fun t => (t.link.receiver, t.link.errorCount, t.link.fault)) = some (.hunting, 1, true) := by decide

/-- R168: an unknown kind is answered UNKNOWN with kind 0xFE. -/
theorem test_unknown_kind :
    look (.unknownKind 0x7F 9 []) State.reset (fun t => t.link.sending.map fun o => (o.frame.kind, o.frame.payload)) =
      some (some (0xFE, [8, 0])) := by decide

/-- Section 10.8: RESYNC with INTERLOCK and RUN_HALTED pending replies with the error count 1. -/
theorem test_resync :
    look (.resync 23 []) (State.reset.withLink { State.reset.link with fault := true, errorCount := 1, pendingSet := 0xA0 })
        (fun t => (sent t, t.link.fault, t.link.errorCount)) = some ([0, 0xA0, 1, 0], false, 0) := by decide

/-- Section 10.8: CLEAR_NOTICE of INTERLOCK and RUN_HALTED with a latch set leaves INTERLOCK. -/
theorem test_clear_notice :
    look (.clearNotice 25 [0xA0])
        ((State.reset.withRun { State.reset.run with vac := { present := false, timer := none, latch := true } }).withLink
          { State.reset.link with pendingSet := 0xA0 })
        (fun t => (sent t, t.link.pendingSet)) = some ([0, 0x80], 0x80) := by decide

/-- R129: a watermark of 0 is stored as 1. -/
theorem test_set_notices :
    look (.setNotices 1 [0x21, 0, 0]) State.reset (fun t => (sent t, t.link.watermark)) =
      some ([0, 0, 0x21, 1, 0], 1) := by decide

/-- R174: the mask takes effect when the reply's last byte has been sent. -/
theorem test_transmit_complete :
    look .transmitComplete (sendingOf State.reset { reply0 with newMask := some 0x21 })
      (fun t => (t.link.enableMask, t.link.sending)) = some (0x21, none) := by decide

/-- R184: 180 bytes with an empty window, release queue and wait list. -/
theorem test_snapshot_length : (snapshot State.reset).length = 180 := by decide +kernel

/-- Section 11.7: the 20 bytes of the result record. -/
theorem test_result_record :
    encodeResult { label := 300, stepIndex := 4, bank := .a, site := .board 0, channel := 1, group := 2, outcome := .pass,
                   attempts := 2, resettles := 0, reading := some 247000, clamped := false, settleSamples := 25,
                   finish := 11126 } =
      [0x2C, 0x01, 0x04, 0x00, 0x00, 0x21, 0x00, 0x02, 0x01, 0xD8, 0xC4, 0x03, 0x19, 0x00, 0x00, 0x00, 0x76, 0x2B,
       0x00, 0x00] := by decide

/-! ## Settings -/

/-- R40: 49 is stored as 50 and 5001 as 5000. -/
theorem test_set_timing :
    look (.setTiming 1 [49, 0, 0x89, 0x13]) State.reset (fun t => (t.relays.tOp, t.relays.tRel)) =
      some (50, 5000) := by decide

/-- Section 2.5: three sites with bases 0, 1000 and 2000. -/
theorem test_set_sites :
    look (.setSites 1 [3, 0, 0, 0xE8, 0x03, 0xD0, 0x07]) State.reset
      (fun t => (t.sites.count, t.sites.entries.toList.map SiteEntry.base)) =
      some (3, [0, 1000, 2000, 0, 0, 0, 0, 0]) := by decide

/-- R157: a mask naming channel 4 is refused with RANGE. -/
theorem test_set_channels : look (.setChannels 1 [0x10]) State.reset sent = some [2, 0] := by decide

/-- R161 and R184: bit n of the output byte is the level of FXOn. -/
theorem test_set_outputs :
    look (.setOutputs 1 [0, 1, 0, 1]) State.reset (fun t => t.run.outputs) = some 0xA := by decide

/-- R160: a lost line's latch is set again and INTERLOCK raised. -/
theorem test_clear_interlock :
    look (.clearInterlock 1 [])
      (State.reset.withRun { State.reset.run with vac := { present := false, timer := none, latch := true } })
      (fun t => (t.run.vac.latch, sent t)) = some (true, [0, 0x80, 0x06]) := by decide

/-- R55: a count of 0 is taken as 1, and the table ends at node 4095. -/
theorem test_read_nodes :
    look (.readNodes 1 [0xFF, 0x0F, 0]) (relaysAs State.reset [node 4095 (.parked 2 .returnLine)] [] []) sent =
      some [0, 0, 0xFF, 0x0F, 1, 3, 2, 1, 0xFF, 1, 0, 0] := by decide

/-- R56: the state and line of a node stand. -/
theorem test_clear_close_counts :
    look (.clearCloseCounts 1 [7, 0, 7, 0]) (relaysAs State.reset [node 7 (.parked 2 .returnLine)] [] [])
      (fun t => t.relays.nodes) = some [(7, { state := .parked 2 .returnLine, closeCount := 0 })] := by decide

/-! ## Plan and runs -/

/-- A record of the link with one FORCE and one RETURN node. -/
def wire0 : WireRecord :=
  { label := 110, kind := 0, scope := 0, barrier := false, hold := false, group := 0, range := 0, acquireExp := 0,
    level := -1, band := 1, dwell := 0, units := 0, prescale := 0, resettleLimit := 0, retries := 0, scaleExp := 0,
    null := -524288, scale := 16384, lo := -8388608, hi := 8388607, force := [17], ret := [9], guard := [18] }

/-- The payload that loads some records into bank A. -/
def loading (ws : List WireRecord) : List Byte := 0 :: byte ws.length :: ws.flatMap encodeRecord

/-- Section 1.4: a dwell of 0 is stored as 1 and counted as clamped. -/
theorem test_load_steps :
    look (.loadSteps 1 (loading [wire0])) State.reset
      (fun t => (sent t, t.plan.a.state, t.plan.a.refCount, t.plan.a.records.map StepRecord.dwell)) =
      some ([0, 0, 1, 1, 1], .loading, 3, [1]) := by decide +kernel

/-- Section 1.4: a node named in FORCE and again in GUARD is refused with NODE_DUP. -/
theorem test_load_steps_node_dup :
    look (.loadSteps 1 (loading [wire0, { wire0 with guard := [17] }])) State.reset
      (fun t => (sent t, t.plan.a.records.length)) = some ([5, 0, 1, 1, 1], 1) := by decide +kernel

/-- Section 2.6: arming an empty bank that is not final leaves a starved fetch STARVED. -/
theorem test_arm_empty_bank :
    look (.armBank 1 [1, 0])
      ((State.reset.withRun { State.reset.run with state := .active }).withDisp
        { State.reset.disp with fetch := .starved .a, starved := true })
      (fun t => (t.disp.fetch, t.disp.starved, t.plan.b.state, sent t)) =
      some (.starved .b, true, .empty, [0, 0x0A, 1, 0]) := by decide +kernel

/-- R19: an ARMED bank of an ACTIVE run is not cleared. -/
theorem test_clear_bank :
    look (.clearBank 1 [1])
      ((State.reset.withRun { State.reset.run with state := .active }).withPlan
        { State.reset.plan with b := { Bank.reset with state := .armed } }) sent = some [1, 0] := by decide

/-- The plan of section 4.10, with bases 0 and 100. -/
def plan410 : List StepRecord :=
  let s : StepRecord := { step0 with hold := true }
  [{ s with label := 10, force := [1], ret := [2] }, { s with label := 20, force := [1], ret := [3] },
   { s with label := 30, kind := .discharge, scope := .common, barrier := true, hold := false, force := [103], ret := [3] },
   { s with label := 40, hold := false, force := [1], ret := [4] },
   { s with label := 50, scope := .common, hold := false, force := [4], ret := [104] }]

/-- The part before the START_RUN of section 4.10. -/
def before410 : State :=
  ((State.reset.withRun { State.reset.run with enabled := 3 }).withPlan
    { State.reset.plan with a := { state := .armed, records := plan410, final := true, live := 0 } }).withSites
    (siteTableOf 2 [0, 100])

/-- Section 4.10 at t = 0: 10/s0 and 10/s1 are dispatched, and the six others have these reasons. -/
theorem test_start_run :
    look (.startRun 1 [3]) before410
      (fun t => (t.disp.window.map fun e => (e.inst.step.label, e.inst.site, e.reason),
        (t.instIn 0).map Instance.site, (t.instIn 1).map Instance.site, t.disp.fetch)) =
      some ([(20, .board 0, .node), (20, .board 1, .node), (30, .panel, .barrier), (40, .board 0, .barrier),
        (40, .board 1, .barrier), (50, .panel, .barrier)], some (.board 0), some (.board 1), .atEnd .a) := by
  decide +kernel

/-- R76: every entry shows PAUSED. -/
theorem test_pause_run :
    look (.pauseRun 1 []) ((reading State.reset [] 0).withWindow [entry0])
      (fun t => t.disp.window.map WindowEntry.reason) = some [.paused] := by decide

/-- R77: the examination dispatches what it can. -/
theorem test_resume_run :
    look (.resumeRun 1 []) (pausedOf ((reading State.reset [] 1).withWindow [entry0]))
      (fun t => (t.disp.window, (t.instIn 0).isSome)) = some ([], true) := by decide +kernel

/-- Section 3.9 at t = 9600: the emergency entry covers the nodes that are not FREE. -/
theorem test_abort_run :
    look (.abortRun 1 [])
      (relaysAs { reading State.reset [] 1 with time := 9600 }
        [node 10 (.held 0 .forceLine), node 11 (.closing 0 .guardLine), node 13 (.closing 0 .returnLine),
         node 20 (.opening 1), node 21 (.opening 1)]
        [{ owner := some 1, cause := .complete, nodes := [20, 21], expiry := 9800 }] [])
      (fun t => (t.relays.queue, t.relays.drive, t.run.state)) =
      some ([{ owner := none, cause := .emergency, nodes := [10, 11, 13, 20, 21], expiry := 9900 }],
        [.open 10 0 .forceLine, .open 11 0 .guardLine, .open 13 0 .returnLine], .halted .station) := by
  decide +kernel

/-- R156: END_RUN in IDLE is refused with STATE. -/
theorem test_end_run : look (.endRun 1 []) State.reset sent = some [1, 0] := by decide

/-- Section 2.4: a retirement by the station counts the instance it removes; the fetch then passes the end of bank A, which
has no other record and no live instance, and is STARVED. -/
theorem test_retire_site :
    look (.retireSite 1 [0]) ((reading State.reset [] 1).withWindow [entry0])
      (fun t => (sent t, t.disp.window)) = some ([0, 0x0E, 2, 3, 1, 0], []) := by decide +kernel

/-- R54: RESET_PART restores T_rel, and its emergency entry uses the T_rel in force. -/
theorem test_reset_part :
    look (.resetPart 1 []) (State.reset.withRelays { State.reset.relays with tRel := 1000 })
      (fun t => (t.relays.queue.map ReleaseEntry.expiry, t.relays.tRel)) = some ([1000], 300) := by decide

/-! ## Relays -/

/-- Section 3.9 at t = 9300: node 11 moves from RETURN to GUARD, node 12 is FREE. -/
theorem test_release_entry_expiry :
    look .releaseEntryExpiry
      (onZero
        (relaysAs { State.reset with time := 9300 }
          [node 10 (.held 0 .forceLine), node 11 (.opening 0), node 12 (.opening 0), (13, { state := .free (some 0), closeCount := 0 })]
          [{ owner := some 0, cause := .dispatch, nodes := [11, 12], expiry := 9300 }] [])
        { inst := { inst0 with nodes := [(10, .forceLine), (11, .guardLine), (13, .returnLine)] }, attempt := 1,
          phase := .connecting .release } .empty)
      (fun t => (t.relays.nodes.map fun p => (p.1, p.2.state, p.2.closeCount), (t.relays.batches.get 0).map CloseBatch.expiry)) =
      some ([(10, .held 0 .forceLine, 1), (11, .closing 0 .guardLine, 2), (12, .free none, 1),
        (13, .closing 0 .returnLine, 1)], some 9800) := by decide +kernel

/-- Section 5.7 at t = 10800: the stimulus goes on with the step's range and level. -/
theorem test_operate_expiry :
    look (.operateExpiry 0)
      (onZero (State.reset.withRelays { State.reset.relays with
          nodes := [node 1 (.closing 0 .forceLine)]
          batches := State.reset.relays.batches.set 0 (some { nodes := [1], expiry := 0 }) })
        (run0 (.connecting .close)) .empty)
      (fun t => ((t.chan 0).stim, t.relays.nodes)) =
      some ({ on := true, range := 3, level := 1200 }, [node 1 (.held 0 .forceLine)]) := by decide

/-! ## Measuring (sections 6.5 and 7.1) -/

/-- The monitor of section 6.5 before sample 2. -/
def before2 : Monitor :=
  { reference := some 1000, dwellRemaining := 2, prescale := 0, unit := 2, resettles := 0, settleSamples := 1 }

/-- Section 6.5, sample 2: an excursion, charged to the unit counter. -/
theorem test_channel_sample :
    look (.channelSample 0 1030) (onZero State.reset (run0 .settling) before2) (fun t => (t.chan 0).monitor) =
      some { reference := some 1030, dwellRemaining := 2, prescale := 1, unit := 1, resettles := 0,
             settleSamples := 2 } := by decide +kernel

/-- Section 6.5, sample 4: a difference equal to the band settles, and is not charged. -/
theorem test_settled :
    look (.settled 0 1050)
      (onZero State.reset (run0 .settling) { before2 with reference := some 1030, dwellRemaining := 1, unit := 1 })
      (fun t => ((t.chan 0).running.map Running.phase, (t.chan 0).monitor.unit)) = some (some .acquiring, 1) := by
  decide +kernel

/-- R107: with both counters 0 a sample that does not settle expires the deadline. -/
theorem test_deadline_expiry :
    look (.deadlineExpiry 0 1030) (onZero State.reset (run0 .settling) { before2 with unit := 0 })
      (fun t => t.results.records.map ResultRecord.outcome) = some [.unsettled] := by decide +kernel

/-- Section 6.5, sample 11: the reading is 1078, and the outcome PASS. -/
theorem test_acquisition_complete :
    look (.acquisitionComplete 0 1070)
      (let s := onZero State.reset (run0 .acquiring) { before2 with reference := some 1080, settleSamples := 7 }
       s.withChan 0 { s.chan 0 with reading := { sum := 1085, count := 1, overrange := false } })
      (fun t => t.results.records.map fun r => (r.outcome, r.reading, r.settleSamples)) =
      some [(.pass, some 1078, 7)] := by decide +kernel

/-- R89: the sample that completes the dwell gives DONE with the dwell as its settle samples. -/
theorem test_dwell_complete :
    look (.dwellComplete 0) (onZero State.reset (runOf { step0 with kind := .discharge } (.dwelling 2)) .empty)
      (fun t => t.results.records.map fun r => (r.outcome, r.settleSamples)) = some [(.done, 3)] := by decide +kernel

/-- Section 7.1: a passing reading, the ends of the range and a half below zero. -/
theorem test_reading :
    computeReading { step0 with acquireExp := 4, null := 1203, scale := 20480, scaleExp := 1 } 1600041 = (247000, false) ∧
      scaled 1048575 65535 7 = 536862208 ∧ scaled (-1048575) 65535 7 = -536862208 ∧
      fitReading (scaled 1048575 16385 3) = (8388607, true) ∧ fitReading (scaled 1048575 16384 3) = (8388600, false) ∧
      scaled (-3) 8192 0 = -1 ∧ scaled 3 8192 0 = 2 := by decide

/-- Section 7.1: the averages of -3 over 2, -6 over 4 and -7 over 4. -/
theorem test_average : average 1 (-3) = -1 ∧ average 2 (-6) = -1 ∧ average 2 (-7) = -2 := by decide

/-- Section 7.1: an overranged acquisition. -/
theorem test_overrange :
    judgeReading { step0 with acquireExp := 2, lo := 0, hi := 600000 }
      ((((ReadingUnit.empty.take 524280).take 524287).take 524283).take 524285) =
      { outcome := .overrange, reading := none, clamped := false } := by decide

/-! ## Results and counters -/

/-- Section 7.7: READ_RESULTS 40 takes 32 records. -/
theorem test_read_results :
    look (.readResults 1 [40]) (holding State.reset 40) (fun t => (t.results.records.length, (sent t).take 5)) =
      some (8, [0, 0, 32, 8, 0]) := by decide +kernel

/-- Section 8.8: counter 0 as the station writes it. -/
theorem test_set_counter :
    look (.setCounter 1 [0, 0, 15, 4, 0, 16, 0x1E, 0, 0, 0, 2, 0xFB, 0xFF, 0xFF, 0xFF]) State.reset
      (fun t => t.counters.units.e0) =
      some { Counter.reset with
        siteMask := 4, outcomeMask := 0x1E, action := .retire, value := 4294967291 } := by decide +kernel

/-- R138: a CLOSE counter preloaded with 4,294,967,290 that receives 9 commands ends at 3. -/
theorem test_counter_wrap :
    ((Counter.add { Counter.reset with event := .close, value := 4294967290 } 9).1.value,
      (Counter.add { Counter.reset with event := .close, value := 4294967290 } 9).2) = (3, true) := by decide

/-- R144: eight values, the flags and the frozen flag. -/
theorem test_read_counters : look (.readCounters 1 []) still (fun t => (sent t).length) = some 36 := by decide

/-- R145: the reply carries the flags after the request. -/
theorem test_clear_overflow :
    look (.clearOverflow 1 [1])
      (State.reset.setCounter 0 { Counter.reset with overflow := true }) sent = some [0, 0, 0] := by decide

/-- R146: an operand of 2 is refused with RANGE. -/
theorem test_freeze_counters : look (.freezeCounters 1 [2]) State.reset sent = some [2, 0] := by decide

/-- R134: a QUEUE counter reads the count of the Result Queue. -/
theorem test_monitor_tick :
    look .monitorTick ((holding State.reset 5).setCounter 3 { Counter.reset with event := .queue })
      (fun t => (t.counters.units.e3.value, t.counters.units.e3.edgeHeld)) = some (5, true) := by decide +kernel

/-! ## The fetch, the run and the sense lines -/

/-- Section 2.5: a making passes over a retired site and counts it. -/
theorem test_fetch_append :
    look .fetchAppend
      (let s := reading State.reset [step0] 1
       (s.withSites { s.sites with count := 2 }).setSiteState 0 (.retired .station) |>.setSiteState 1 .active)
      (fun t => ((t.instIn 0).map Instance.site, t.sites.entries.e0.skipped, t.disp.fetch)) =
      some (some (.board 1), 1, .reading .a 1 0) := by decide +kernel

/-- Section 1.4: a drained bank raises BANK_DONE. -/
theorem test_bank_done :
    look (.bankDone .b)
      ((reading State.reset [] 0).withPlan
        { State.reset.plan with b := { state := .draining, records := [step0], final := true, live := 0 } })
      (fun t => (t.plan.b, t.link.pendingSet)) = some (.reset, 0x08) := by decide

/-- R151: the completed run is DONE, and its parked nodes open in an END entry. -/
theorem test_run_done :
    look .runDone
      (relaysAs ((reading State.reset [] 0).withDisp { State.reset.disp with fetch := .atEnd .a })
        [node 3 (.parked 1 .forceLine)] [] [])
      (fun t => (t.run.state, t.relays.queue.map ReleaseEntry.cause, t.link.pendingSet)) =
      some (.done, [.endRun], 0x10) := by decide +kernel

/-- Section 9.9 at t = 50000 and 51200: the timer starts and stops. -/
theorem test_sense_line_change :
    look (.senseLineChange .vacOk false) { State.reset with time := 50000 } (fun t => t.run.vac.timer) =
      some (some 50000) := by decide

/-- Section 9.9 at t = 62000: the latch is set and the run halted. -/
theorem test_qualification_expiry :
    look (.qualificationExpiry .vacOk)
      (let s := reading State.reset [] 0
       { s with time := 62000, run := { s.run with vac := { present := false, timer := some 60000, latch := false } } })
      (fun t => (t.run.vac.latch, t.run.state, t.link.pendingSet)) = some (true, .halted .interlock, 0xA0) := by
  decide +kernel

/-- R163: a line lost at power-on starts its timer. -/
theorem test_power_on :
    look (.powerOn true false) still (fun t => (t.run.lid.timer, t.counters.frozen)) = some (some 0, false) := by decide

/-! ## States and operands that meet the hypotheses of each obligation -/

/-- The state after reset with nothing on the link: open, ready, settled, with the transient fields clear. -/
theorem reset_is_open :
    State.reset.linkOpen ∧ State.reset.linkReady ∧ State.reset.link.settled ∧ State.reset.transientsClear ∧
      State.reset.latchesQuiet ∧ State.reset.relays.nodes.wf = true := by decide

theorem meets_StepRunsFrontCommand :
    State.reset.pending = [] ∧ State.reset.dueEvent = some .monitorTick ∧
      ({ State.reset with tickTaken := true } : State).dueEvent = none := by decide

theorem meets_FrameBytesDeliverFrame :
    ((List.replicate 1024 0 : List Byte).length ≤ 1024) ∧ State.reset.link.receiver = .hunting ∧
      State.reset.link.settled := by decide +kernel

/-- The link with the receiver inside a frame. -/
def inside (got : List Byte) : Link := { State.reset.link with receiver := .inFrame got 0 }

/-- A length of 1024 and of 1025 at the second LENGTH byte, and a READ_STATUS frame with a right and a wrong CRC byte. -/
theorem meets_ReceiverServed :
    (inside [0]).settled ∧ received [0, 4] = .more ∧ received [1, 4] = .lengthError ∧
      received ([0, 0, 1, 7] ++ crcBytes [0, 0, 1, 7]) = .complete { kind := 1, tag := 7, payload := [] } ∧
      received [0, 0, 1, 7, 0, 0] = .crcError ∧
      100 ≤ ((100 : Time) - 0).toNat ∧ ((99 : Time) - 0).toNat < 100 := by decide +kernel

theorem meets_RequestHeldOrOverrun :
    1024 < (List.replicate 1025 0 : List Byte).length ∧ (List.replicate 1024 0 : List Byte).length ≤ 1024 ∧
      (sendingOf State.reset reply0).link.settled ∧ (sendingOf State.reset reply0).link.slot = none ∧
      reply0.isReply = true := by decide +kernel

theorem meets_EveryRequestAnswered : State.reset.linkReady ∧ (sendingOf State.reset notice0).linkReady := by
  constructor
  · decide
  · exact ⟨rfl, rfl, fun o h => by cases h; rfl⟩

theorem meets_FaultedOrUnknownRefused :
    Request.readStatus ≠ .resync ∧ (0x00 : Byte) ∉ requestKinds ∧ (0x54 : Byte) ∉ requestKinds ∧
      State.reset.link.slot = none ∧ State.reset.link.waiting = none ∧ State.reset.link.sending = none ∧
      State.reset.link.due = [] ∧ State.reset.link.fault = false := by decide

/-- A due notice with a waiting reply, a RESYNC reply waiting, and a request in the slot behind a reply. -/
theorem meets_TransmitCompleteServed :
    let busy : Link := { State.reset.link with sending := some reply0, due := [.starved] }
    let resync : Reply := { frame := { kind := 0x82, tag := 0, payload := [] }, newMask := none }
    let ask : Frame := { kind := 1, tag := 0, payload := [] }
    (busy.slot = none ∧ busy.due = .starved :: [] ∧ busy.fault = false ∧ busy.waiting = none) ∧
    (({ busy with waiting := some resync } : Link).waiting = some resync ∧ resync.frame.kind = 0x82) ∧
    (({ busy with slot := some ask, due := [] } : Link).slot = some ask ∧ ask.payload.length ≤ 1024) := by decide

theorem meets_TransmitterNeverIdle : exec .runDone State.reset = .next State.reset := rfl

theorem meets_ReadStatusAndResync :
    State.reset.linkOpen ∧ (([] : List Byte).length ≤ 1024) ∧
      (State.reset.withLink { State.reset.link with fault := true }).link.slot = none := by decide

/-- A state with one of everything the snapshot lists. -/
theorem meets_SnapshotLayout :
    let s := relaysAs (onZero ((reading State.reset [] 2).withWindow [entry0]) (run0 .settling) .empty) []
      [entryOf 0 .complete [1]] [{ ch := 1, cause := .endRun }]
    s.disp.window[0]? = some entry0 ∧ (s.chan 0).running = some (run0 .settling) ∧ (s.chan 1).running = none ∧
      s.relays.queue[0]? = some (entryOf 0 .complete [1]) ∧
      s.relays.waitList[0]? = some { ch := 1, cause := .endRun } := by decide

theorem meets_SetNoticesServed : State.reset.linkOpen ∧ ([0xFF, 0, 1] : List Byte).length ≤ 1024 := by decide

theorem meets_ClearNoticeServed :
    State.reset.linkReady ∧ State.reset.link.fault = false ∧
      (State.reset.link.sending = none → State.reset.link.due = []) ∧ ([0xFF] : List Byte).length ≤ 1024 := by decide

theorem meets_NoticeRaised :
    Notice.starved.isIn 0x02 = true ∧ Notice.starved.isIn State.reset.link.pendingSet = false := by decide

theorem meets_SettingsServed :
    State.reset.linkOpen ∧ State.reset.run.state = .idle ∧ State.reset.relays.queue = [] ∧
      ([50, 0, 0x88, 0x13] : List Byte).length = 4 := by decide

theorem meets_SetSitesServed :
    State.reset.linkOpen ∧ ([8] ++ List.replicate 16 0 : List Byte).length ≤ 1024 ∧
      (List.replicate 16 0 : List Byte).length = 2 * (8 : Byte).toNat ∧ State.reset.plan.a.state = .empty := by decide

/-- A lost line with its latch set in an IDLE run, and a line with its latch clear. -/
theorem meets_ClearInterlockServed :
    (State.reset.withRun { State.reset.run with vac := { present := false, timer := none, latch := true } }).linkOpen ∧
      (State.reset.withRun { State.reset.run with vac := { present := false, timer := none, latch := true } }).latchesQuiet := by
  decide

theorem meets_NodeTableRequests :
    State.reset.linkOpen ∧ State.reset.relays.nodes.wf = true ∧
      (relaysAs State.reset [node 4095 (.parked 0 .forceLine)] [] []).relays.nodes.wf = true ∧
      (0xFF : Byte).toNat + 256 * (0x0F : Byte).toNat = 4095 := by decide

/-- Each field of the record `wire0` stands in its bytes at its offset. -/
theorem wire0_fields : recordFields (encodeRecord wire0) wire0 := by
  unfold recordFields
  intro refs
  repeat refine ⟨by decide, ?_⟩
  rintro (_ | _ | _ | j) n h
  · cases h; decide
  · cases h; decide
  · cases h; decide
  · cases h

/-- A payload of one record, a payload of none, and one too short for its two bytes. -/
theorem meets_LoadStepsAppends :
    (loading [wire0] = 0 :: BitVec.ofNat 8 [encodeRecord wire0].length :: [encodeRecord wire0].flatten ∧
      List.Forall₂ recordFields [encodeRecord wire0] [wire0]) ∧
    (¬ ∃ (bc : Byte) (rs : List (List Byte)), ([0] : List Byte) = bc :: BitVec.ofNat 8 rs.length :: rs.flatten) ∧
    ([2, 0] : List Byte) = 2 :: BitVec.ofNat 8 ([] : List (List Byte)).length :: ([] : List (List Byte)).flatten ∧
    State.reset.linkOpen ∧ bankCode .a = 0 ∧ State.reset.plan.a.state = .empty :=
  ⟨⟨by decide, .cons wire0_fields .nil⟩, (fun ⟨_, _, h⟩ => by cases h), rfl, by decide⟩

/-- A starved fetch of an ACTIVE run with some of bank B's records. -/
def starvedOn (records : List StepRecord) : State :=
  let s := (reading State.reset [] 0).withPlan
    { State.reset.plan with b := { state := .loading, records := records, final := false, live := 0 } }
  s.withDisp { s.disp with fetch := .starved .a, starved := true }

/-- A full window and an empty one; bank B with a record and with none, an instance waiting and none. -/
theorem meets_BankRequests :
    let full := (starvedOn [step0]).withWindow (List.replicate 16 entry0)
    (State.reset.linkOpen ∧ State.reset.run.state ≠ .active ∧ bankCode .b = 1) ∧
    (full.linkOpen ∧ full.run.state = .active ∧ full.disp.fetch = .starved .a ∧ full.transientsClear ∧
      full.plan.b.state = .loading ∧ full.plan.b.records ≠ [] ∧ 16 ≤ full.disp.window.length) ∧
    ((starvedOn [step0]).linkOpen ∧ (starvedOn [step0]).plan.b.records ≠ [] ∧ (starvedOn [step0]).disp.window = []) ∧
    ((starvedOn []).linkOpen ∧ (starvedOn []).transientsClear ∧ (starvedOn []).plan.b.records = [] ∧
      (starvedOn []).plan.b.live = 0 ∧ (starvedOn []).plan.a.state ≠ .armed ∧ (starvedOn []).disp.window = [] ∧
      (∀ c, ((starvedOn []).chan c).running = none) ∧ ((starvedOn []).withWindow [entry0]).disp.window ≠ []) := by decide

theorem meets_DrainAndCompletionServed :
    let s := (reading State.reset [] 0).withPlan
      { State.reset.plan with b := { state := .draining, records := [step0], final := true, live := 0 } }
    let d := relaysAs ((reading State.reset [] 0).withDisp { State.reset.disp with fetch := .atEnd .a })
      [node 3 (.parked 1 .forceLine)] [] []
    (s.link.settled ∧ s.run.state = .active ∧ (s.plan.get .b).state = .draining ∧ (s.plan.get .b).live = 0) ∧
    (d.link.settled ∧ d.relays.nodes.wf = true ∧ d.run.state = .active ∧ d.disp.fetch = .atEnd .a ∧ d.disp.window = [] ∧
      (∀ c, (d.chan c).running = none) ∧ d.relays.queue.length = 0 ∧ d.relays.waitList = []) ∧
    (relaysAs d d.relays.nodes (queueOf 8) []).relays.queue.length = 8 := by decide

/-- A COMMON record; a SITE record with site 0 RETIRED and site 1, the last, ACTIVE; the same step with its site 0 still
waiting and site 1 to come; a SITE record with no ACTIVE site. -/
theorem meets_FetchMakesInstance :
    let s := reading still [{ step0 with scope := .common }, step0] 0
    let u := ((s.withSites { s.sites with count := 2 }).setSiteState 0 (.retired .contact)).setSiteState 1 .active
    let v := (reading still [step0] 1).withWindow [entry0]
    let x := ((v.withSites { v.sites with count := 2 }).setSiteState 1 .active).withDisp
      { v.disp with fetch := .reading .a 0 1 }
    (s.transientsClear ∧ s.countersPassive ∧ s.run.state = .active ∧ s.disp.window.length < 16 ∧
      s.disp.fetch = .reading .a 0 0 ∧ (s.plan.get .a).records[0]? = some { step0 with scope := .common } ∧
      s.disp.window = []) ∧
    ((u.plan.get .a).records[1]? = some step0 ∧ step0.scope = .site ∧ (1 : Fin 8).val < u.sites.count ∧
      u.siteState 1 = .active ∧ u.siteState 0 ≠ .active) ∧
    ((x.plan.get .a).records[0]? = some step0 ∧ x.disp.fetch = .reading .a 0 1 ∧ x.siteState 1 = .active ∧
      ∀ e ∈ x.disp.window, e.inst.key ≠ (.a, 0, .board 1)) ∧
    ((u.setSiteState 1 (.retired .limit)).sites.count = 2 ∧
      (u.setSiteState 1 (.retired .limit)).siteState 1 ≠ .active) := by decide

/-- Bank A final; bank B ARMED with a record, ARMED with none, EMPTY; a live count that is not 0 and one that is. -/
theorem meets_FetchPassesEnd :
    let s := reading State.reset [] 1
    let f := s.withPlan { s.plan with a := { s.plan.a with final := true } }
    let b (x : List StepRecord) := s.withPlan
      { s.plan with b := { state := .armed, records := x, final := false, live := 0 } }
    (s.transientsClear ∧ s.run.state = .active ∧ s.disp.window.length < 16 ∧ s.disp.fetch = .reading .a 0 0 ∧
      (s.plan.get .a).records.length ≤ 0 ∧ (s.plan.get .a).live ≠ 0 ∧ (s.plan.get .a).final = false ∧
      (s.plan.get .b).state ≠ .armed) ∧
    (f.plan.get .a).final = true ∧ (((b [step0]).plan.get .b).state = .armed ∧ ((b [step0]).plan.get .b).records ≠ []) ∧
    (((b []).plan.get .b).records = [] ∧ ((b []).plan.get .b).live = 0) ∧
    ((reading State.reset [] 0).plan.get .a).live = 0 := by decide

theorem meets_WindowFilled :
    (reading State.reset [step0] 0).canMake = true ∧ State.reset.canMake = false := by decide

/-- One entry for every row of the check table, with 7 and with 8 entries in the release queue. -/
theorem meets_EntryDecidedInOrder :
    let b := reading State.reset [] 1
    let other : WindowEntry := { entry0 with inst := { inst0 with stepIndex := 1, step := { step0 with barrier := true } } }
    let far : WindowEntry := { other with inst := { other.inst with nodes := [(5, .forceLine)], step := step0 } }
    let parked (d : Chan) (n : Node) (q : Nat) := relaysAs b [node n (.parked d .forceLine)] (queueOf q) []
    b.relays.nodes.wf = true ∧
    (pausedOf b).decideEntry [] entry0 = .hold .paused ∧
    b.decideEntry [far] other = .hold .barrier ∧ b.decideEntry [other] far = .hold .barrier ∧
    (onZero b (run0 .settling) .empty).decideEntry [] other = .hold .barrier ∧
    b.decideEntry [entry0] entry0 = .hold .order ∧
    (relaysAs b [node 1 (.opening 1)] [] []).decideEntry [] entry0 = .hold .node ∧
    (relaysAs b [node 1 (.opening 1)] [] []).decideEntry [] { entry0 with recallSet := [1] } = .hold .recall ∧
    (onZero b (run0 .settling) .empty).decideEntry [] entry0 = .hold .channel ∧
    (parked 1 1 7).decideEntry [] entry0 = .recall [1] ∧ (parked 1 1 8).decideEntry [] entry0 = .hold .queue ∧
    (parked 0 3 7).decideEntry [] entry0 = .dispatch 0 ∧ (parked 0 3 8).decideEntry [] entry0 = .hold .queue ∧
    (b.withWindow [far, entry0]).entryOf inst0.key = some entry0 ∧
    (b.withWindow [far, entry0]).olderThan inst0.key = [far] ∧
    b.decideEntry [far] entry0 = .dispatch 0 := by decide +kernel

/-- A waiting instance that an examination dispatches: two walks, of which the second finds the window empty. Before it
an examination is due at the close, and no wait list, halt or second instance stands in the way. -/
theorem meets_EntryDecidedInOrder_examined :
    let s := (reading still [] 1).withWindow [entry0]
    Examined s s.walk.walk ∧ s.walk.walk.instIn 0 = some inst0 ∧ s.relays.nodes.wf = true ∧ s.countersPassive ∧
      (s.disp.window.map fun e => e.inst.key).Nodup ∧ s.noteExam.disp.examDue = true ∧ s.run.haltAsked = false ∧
      s.disp.examDue = false :=
  ⟨.again _ _ (by decide +kernel) (.last _ (by decide +kernel)), by decide +kernel⟩

/-- R61: in one walk the older of two instances is dispatched, and the younger, which shares a node, is held back. -/
theorem test_walk_order :
    let other : WindowEntry := { entry0 with inst := { inst0 with stepIndex := 1 } }
    let s := ((reading still [] 2).withWindow [entry0, other]).walk
    (s.instIn 0, s.disp.window.map fun e => (e.inst.stepIndex, e.reason)) = (some inst0, [(1, .node)]) := by
  decide +kernel

theorem meets_ChannelChosenByReuse :
    State.reset.choose inst0 = none ∧ (reading State.reset [] 1).choose inst0 = some 0 := by decide +kernel

/-- Node 1 parked on the needed line and node 3 to release; nothing parked; both nodes parked on their lines. -/
theorem meets_DispatchTaken :
    let s := relaysAs still [node 1 (.parked 0 .forceLine), node 3 (.parked 0 .guardLine)] [] []
    let h := relaysAs still [node 1 (.parked 0 .forceLine), node 2 (.parked 0 .returnLine)] [] []
    (s.relays.nodes.wf = true ∧ s.countersPassive ∧ (s.chan 0).running = none ∧ (inst0.nodes.map Prod.fst).Nodup ∧
      s.relays.nodes.state 1 = .parked 0 .forceLine ∧ s.relays.nodes.state 2 = .free none ∧
      s.relays.nodes.state 3 = .parked 0 .guardLine ∧ inst0.lineOf 3 ≠ some .guardLine) ∧
    (still.relays.nodes.state 1 = .free none ∧ still.relays.nodes.state 2 = .free none) ∧
    (h.relays.nodes.state 1 = .parked 0 .forceLine ∧ h.relays.nodes.state 2 = .parked 0 .returnLine) := by
  decide +kernel

/-- Node 1 is parked on channel 1, and channel 0 alone is enabled. -/
theorem meets_RecallIssued :
    let s := relaysAs (reading still [] 1) [node 1 (.parked 1 .forceLine)] [] []
    s.relays.nodes.wf = true ∧ s.countersPassive ∧ s.decideEntry [] entry0 = .recall [1] := by decide +kernel

theorem meets_PauseAndResume :
    let s := (reading still [] 1).withWindow [entry0]
    State.reset.linkOpen ∧ State.reset.run.state ≠ .active ∧
    (s.linkOpen ∧ s.run.state = .active ∧ s.disp.paused = false) ∧
    ((pausedOf s).linkOpen ∧ (pausedOf s).disp.paused = true ∧ (pausedOf s).transientsClear ∧
      (pausedOf s).countersStill ∧ (pausedOf s).countersPassive ∧ (pausedOf s).relays.nodes.wf = true) := by decide

/-- The state before a START_RUN, counters frozen. -/
def ready410 : State := before410.withCounters still.counters

/-- A mask that names the last configured site and one that names the site after it; 252 and 253 records held; a latch
set; an empty bank A that is final, and one that is not with bank B ARMED, with
records and with none, and not ARMED. -/
theorem meets_StartRunServed :
    let emptyA (final : Bool) (b : BankState) := ready410.withPlan
      { a := { state := .armed, records := [], final := final, live := 0 }
        b := { state := b, records := plan410, final := true, live := 0 } }
    (State.reset.linkOpen ∧ State.reset.plan.a.state ≠ .armed) ∧
    (ready410.linkOpen ∧ ready410.transientsClear ∧ ready410.countersStill ∧ ready410.run.state = .idle ∧
      ready410.plan.a.state = .armed ∧ (3 : Byte).toNat ≠ 0 ∧
      (∀ j, j < 8 → (3 : Byte).getLsbD j = true → j < ready410.sites.count) ∧ ready410.run.enabled ≠ 0 ∧
      ready410.results.records.length ≤ 252 ∧ ready410.run.vac.latch = false ∧ ready410.run.lid.latch = false ∧
      ready410.plan.a.records ≠ []) ∧
    ((4 : Byte).getLsbD 2 = true ∧ ready410.sites.count ≤ 2) ∧ 252 < (holding ready410 253).results.records.length ∧
    (ready410.withRun { ready410.run with lid := { present := true, timer := none, latch := true } }).run.lid.latch = true ∧
    ((emptyA true .empty).plan.a.records = [] ∧ (emptyA true .empty).plan.a.live = 0 ∧
      (emptyA true .empty).disp.window = [] ∧ (∀ c, ((emptyA true .empty).chan c).running = none) ∧
      (emptyA true .empty).plan.a.final = true) ∧
    ((emptyA false .armed).plan.a.final = false ∧ (emptyA false .armed).plan.b.state = .armed ∧
      (emptyA false .armed).plan.b.records ≠ []) ∧
    (emptyA false .loading).plan.b.state ≠ .armed ∧
    ((emptyA false .armed).withPlan { a := (emptyA false .armed).plan.a, b := { Bank.reset with state := .armed } }).plan.b =
      { state := .armed, records := [], final := false, live := 0 } := by
  decide +kernel

theorem meets_AbortRunHalts :
    let s := relaysAs (reading State.reset [] 1) [node 1 (.held 0 .forceLine), node 2 (.opening 1)] [] []
    s.linkOpen ∧ s.relays.nodes.wf = true ∧ s.run.state = .active ∧ s.relays.queue = [] ∧
      State.reset.run.state ≠ .active := by decide

theorem meets_HaltRecordByState :
    (run0 .releasing).phase = .releasing ∧ (run0 (.connecting .close)).phase = .connecting .close ∧
      (run0 .settling).phase = .settling ∧ (run0 (.dwelling 0)).phase = .dwelling 0 ∧
      ∃ r, (run0 (.posting r)).phase = .posting r := by
  refine ⟨rfl, rfl, rfl, rfl, judgedRecord 0 State.reset (run0 .settling) (.bare .unsettled) 1 0 0, rfl⟩

theorem meets_EndRunServed :
    State.reset.linkOpen ∧ (State.reset.withRun { State.reset.run with state := .halted .limit }).linkOpen := by decide

/-- The ACTIVE site 0 with an instance in the window; the RETIRED site 0; site 1, at the site count. -/
theorem meets_RetireSiteServed :
    let s := (reading still [] 1).withWindow [entry0]
    (s.linkOpen ∧ (0 : Fin 8).val = (0 : Byte).toNat ∧ (0 : Fin 8).val < s.sites.count ∧ s.siteState 0 = .active ∧
      s.transientsClear ∧ s.countersStill ∧ s.countersPassive ∧ s.relays.nodes.wf = true ∧
      s.disp.window = [entry0] ∧ entry0.inst.site = .board 0) ∧
    (s.withWindow []).disp.window = [] ∧
    (s.setSiteState 0 (.retired .limit)).siteState 0 = .retired .limit ∧ s.sites.count ≤ (1 : Byte).toNat ∧
    State.reset.siteState 0 = .off := by decide

theorem meets_ResetPartServed :
    let s := relaysAs State.reset [node 1 (.parked 0 .forceLine)] [] []
    s.linkOpen ∧ s.relays.nodes.wf = true ∧ s.relays.queue = [] := by decide

/-- A batch of channel 0 that is due at the Time Base value 0 and one that is not. -/
theorem meets_OperateExpiryConnects :
    let s := State.reset.withRelays { State.reset.relays with
      nodes := [node 1 (.closing 0 .forceLine)]
      batches := State.reset.relays.batches.set 0 (some { nodes := [1], expiry := 0 }) }
    let u := onZero s (run0 (.connecting .close)) .empty
    (u.link.settled ∧ u.relays.nodes.wf = true ∧ u.relays.batches.get 0 = some { nodes := [1], expiry := 0 } ∧
      (u.time - 0).toNat < 2147483648 ∧ (u.chan 0).running = some (run0 (.connecting .close)) ∧
      step0.kind ≠ .discharge) ∧
    2147483648 ≤ (u.time - (1 : Time)).toNat := by decide

/-- Outside an ACTIVE run; in an ACTIVE run that is not paused, with an instance waiting and an append waiting; counters
that could act with nothing to dispatch. -/
theorem meets_ReleaseExpiryFrees :
    let q := [entryOf 0 .complete [1]]
    let s := relaysAs State.reset [node 1 (.opening 0)] q []
    let a := relaysAs ((reading still [] 1).withWindow [entry0]) [node 1 (.opening 0), node 2 (.parked 1 .forceLine)] q
      [{ ch := 1, cause := .endRun }]
    let h := s.withCounters { s.counters with units := s.counters.units.set 0 { Counter.reset with action := .halt } }
    (s.link.settled ∧ s.relays.nodes.wf = true ∧ s.transientsClear ∧
      s.relays.queue = entryOf 0 .complete [1] :: [] ∧ (s.time - (entryOf 0 .complete [1]).expiry).toNat < 2147483648 ∧
      (entryOf 0 .complete [1]).cause ≠ .dispatch ∧ s.relays.waitList = [] ∧ s.run.state ≠ .active) ∧
    (a.link.settled ∧ a.relays.nodes.wf = true ∧ a.transientsClear ∧ a.run.state = .active ∧ a.disp.paused = false ∧
      a.countersPassive ∧ a.disp.window = [entry0]) ∧
    (h.dispatchQuiet ∧ (h.counters.units.get 0).action = .halt) ∧
    2147483648 ≤ (s.time - (1 : Time)).toNat := by decide

/-- R60: the expiry that frees an instance's node dispatches it in the same event. -/
theorem test_release_entry_expiry_dispatches :
    look .releaseEntryExpiry
      (relaysAs ((reading still [] 1).withWindow [entry0]) [node 1 (.opening 1)] [entryOf 1 .complete [1]] [])
      (fun t => (t.disp.window, t.instIn 0)) = some ([], some inst0) := by decide +kernel

/-- Node 1 is needed and OPENING in the entry, node 3 is not needed; with dispatch paused, and in an ACTIVE run with
an instance and an append waiting; then both needed nodes HELD, so that none is to close. -/
theorem meets_DispatchEntryCloses :
    let x (b : State) := onZero (relaysAs b [node 1 (.opening 0), node 3 (.opening 0)] [entryOf 0 .dispatch [1, 3]] [])
      (run0 (.connecting .release)) .empty
    let s := pausedOf (x still)
    let h := relaysAs s [node 1 (.held 0 .forceLine), node 2 (.held 0 .returnLine), node 3 (.opening 0)]
      [entryOf 0 .dispatch [3]] []
    let a := x ((reading State.reset [] 1).withWindow [entry0])
    let v := relaysAs a a.relays.nodes a.relays.queue [{ ch := 2, cause := .endRun }]
    (s.relays.nodes.wf = true ∧ s.link.settled ∧ s.transientsClear ∧ s.countersPassive ∧
      s.relays.queue = entryOf 0 .dispatch [1, 3] :: [] ∧
      (s.time - (entryOf 0 .dispatch [1, 3]).expiry).toNat < 2147483648 ∧
      (entryOf 0 .dispatch [1, 3]).owner = some 0 ∧ (s.chan 0).running = some (run0 (.connecting .release)) ∧
      (inst0.nodes.map Prod.fst).Nodup ∧ (1, Line.forceLine) ∈ inst0.nodes ∧ s.relays.nodes.state 1 = .opening 0) ∧
    (v.countersPassive ∧ v.relays.waitList ≠ [] ∧ v.disp.window = [entry0] ∧ v.run.state = .active ∧
      v.disp.paused = false) ∧
    (h.relays.nodes.wf = true ∧ h.relays.nodes.state 1 = .held 0 .forceLine ∧
      h.relays.nodes.state 2 = .held 0 .returnLine ∧ (entryOf 0 .dispatch [3]).nodes = [3]) := by
  decide +kernel

/-- A COMPLETE item with a HELD node; an END item with a PARKED node, also in a DONE run with the fetch at END and nothing
waiting or running (section 3.10); an END item that covers none, also before a COMPLETE item; an ACTIVE run with an
instance waiting. -/
theorem meets_FreedSlotGranted :
    let q := [entryOf 3 .complete [9]]
    let s := relaysAs State.reset [node 1 (.held 0 .forceLine), node 2 (.parked 1 .forceLine)] q
    (s [{ ch := 0, cause := .complete }]).relays.nodes.wf = true ∧
    (s [{ ch := 0, cause := .complete }]).transientsClear ∧ (s [{ ch := 0, cause := .complete }]).relays.queue = q ∧
    ((0 : Time) - (entryOf 3 .complete [9]).expiry).toNat < 2147483648 ∧
    (s [{ ch := 0, cause := .complete }]).relays.waitList = { ch := 0, cause := .complete } :: [] ∧
    (s [{ ch := 0, cause := .complete }]).run.state ≠ .active ∧ (s [{ ch := 0, cause := .complete }]).link.settled ∧
    (let d := ((s [{ ch := 1, cause := .endRun }]).withDisp { State.reset.disp with fetch := .atEnd .a }).withRun
        { State.reset.run with state := .done }
     d.dispatchQuiet ∧ d.disp.fetch = .atEnd .a ∧ d.disp.window = [] ∧ ∀ c, (d.chan c).running = none) ∧
    ((reading still [] 1).withWindow [entry0]).countersPassive ∧
    (s [{ ch := 0, cause := .complete }]).relays.nodes.state 1 = .held 0 .forceLine ∧
    (s [{ ch := 1, cause := .endRun }]).relays.nodes.state 2 = .parked 1 .forceLine ∧
    (s [{ ch := 2, cause := .endRun }]).relays.nodes.parkedOn 2 = [] ∧
    (s [{ ch := 2, cause := .endRun }, { ch := 0, cause := .complete }]).relays.waitList =
      [{ ch := 2, cause := .endRun }] ++ { ch := 0, cause := .complete } :: [] := by decide

/-- Channel 0 with a reference of 1000 and a band of 20, in a phase. -/
def measuring (p : Phase) : State := onZero still (run0 p) before2

/-- IDLE, RELEASING and DWELLING; in band at 1020, with one sample of two; drift at 1021. -/
theorem meets_SampleWithoutJudgement :
    State.reset.link.settled ∧ State.reset.transientsClear ∧ (State.reset.chan 0).running = none ∧
    ((measuring .releasing).chan 0).running = some (run0 .releasing) ∧
    (((measuring (.dwelling 0)).chan 0).running = some (run0 (.dwelling 0)) ∧ 0 + 1 ≠ step0.dwell) ∧
    ((measuring .acquiring).link.settled ∧ (measuring .acquiring).transientsClear ∧
      ((measuring .acquiring).chan 0).running = some (run0 .acquiring) ∧
      ((measuring .acquiring).chan 0).monitor.reference = some 1000 ∧
      ((1020 : SampleCode).toInt - 1000).natAbs ≤ step0.band ∧
      ((measuring .acquiring).chan 0).reading.count + 1 ≠ 2 ^ step0.acquireExp ∧
      step0.band < ((1021 : SampleCode).toInt - 1000).natAbs ∧
      ((measuring .acquiring).chan 0).monitor.resettles < step0.resettleLimit ∧
      (measuring .acquiring).countersPassive) := by decide

/-- With dwell remaining 2: in band the dwell is 1, out of band it is 2; with dwell remaining 1 it is 0 in band. -/
theorem meets_SampleInSettling :
    (measuring .settling).link.settled ∧ (measuring .settling).transientsClear ∧
      ((measuring .settling).chan 0).running = some (run0 .settling) ∧
      ((1020 : SampleCode).toInt - 1000).natAbs ≤ step0.band ∧ step0.band < ((1021 : SampleCode).toInt - 1000).natAbs ∧
      ((measuring .settling).chan 0).monitor.dwellRemaining - 1 ≠ 0 ∧
      ((measuring .settling).chan 0).monitor.prescale = 0 ∧ 0 < ((measuring .settling).chan 0).monitor.unit ∧
      ({ before2 with dwellRemaining := 1 } : Monitor).dwellRemaining - 1 = 0 := by decide

/-- Stage 2 and stage 3 at the ends of their ranges. -/
theorem meets_ReadingStages :
    (8 : Nat) ≤ 8 ∧ (-524288 * 2 ^ 8 : Int) ≤ -134217728 ∧ (134217472 : Int) ≤ 524287 * 2 ^ 8 ∧
      (1048575 : Int) ≤ 1048575 ∧ (65535 : Nat) ≤ 65535 ∧ (7 : Nat) ≤ 7 ∧ (8388607 : Int) < 8388608 := by decide

/-- A reading that fails low with a retry left: the second sample of two. -/
def failing : State :=
  let k := runOf { step0 with retries := 1 } .acquiring
  let s := onZero still k before2
  s.withChan 0 { s.chan 0 with reading := { sum := 900, count := 1, overrange := false } }

theorem meets_JudgementRetries :
    let k := runOf { step0 with retries := 1 } .acquiring
    failing.transientsClear ∧ failing.countersPassive ∧ (failing.chan 0).running = some k ∧
      k.phase = .acquiring ∧ (failing.chan 0).monitor.reference = some 1000 ∧
      ((1000 : SampleCode).toInt - 1000).natAbs ≤ k.inst.step.band ∧ (1 : Nat) + 1 = 2 ^ k.inst.step.acquireExp ∧
      (judgeReading k.inst.step { sum := 1900, count := 2, overrange := false }).outcome = .low ∧
      k.attempt ≤ k.inst.step.retries := by decide

/-- The channel in ACQUIRING at the resettle limit of its step. -/
def atLimit : State := onZero still (run0 .acquiring) { before2 with resettles := 1 }

/-- A dwell of a DISCHARGE step before its last sample. -/
def dwell0 : Running := runOf { step0 with kind := .discharge } (.dwelling 2)

/-- A CONTACT step in ACQUIRING. -/
def contact0 : Running := runOf { step0 with kind := .contact } .acquiring

/-- The dwelling channel 0, with that many records held. -/
def dwelling (n : Nat) : State := holding (onZero still dwell0 .empty) n

/-- Channel 0 in ACQUIRING with that context and one sample of two taken. -/
def acquiring (s : State) (k : Running) (overrange : Bool) : State :=
  (onZero s k before2).withChan 0 { (onZero s k before2).chan 0 with
    reading := { sum := 1085, count := 1, overrange := overrange } }

/-- The dwell's record, for every state with the dwelling channel. -/
theorem dwell_formsRecord (s : State) : formsRecord (.dwellComplete 0) 0 s dwell0 (s.chan 0) []
    (judgedRecord 0 s dwell0 (.bare .done) 1 0 3) :=
  .inr (.inr (.inl ⟨2, .inl rfl, rfl, rfl, by decide, rfl, rfl, rfl⟩))

/-- The four judgements that form a record. -/
theorem meets_formsRecord :
    (∃ x rec, formsRecord (.deadlineExpiry 0 1030) 0 (onZero still (run0 .settling) { before2 with unit := 0 })
      (run0 .settling) x [] rec) ∧
    (∃ x rec, formsRecord (.acquisitionComplete 0 1000) 0 (acquiring still (run0 .acquiring) false) (run0 .acquiring) x []
      rec) ∧
    (∃ x rec, formsRecord (.dwellComplete 0) 0 (dwelling 0) dwell0 x [] rec) ∧
    ∃ x before rec, formsRecord (.channelSample 0 1021) 0 atLimit (run0 .acquiring) x before rec ∧ before ≠ [] :=
  ⟨⟨_, _, .inl ⟨1030, .inl rfl, rfl, by decide, by decide, rfl, rfl, rfl, rfl, rfl⟩⟩,
    ⟨_, _, .inr (.inl ⟨1000, 1000, .inl rfl, rfl, by decide, rfl, by decide, by decide, by decide, rfl, rfl, rfl⟩)⟩,
    ⟨_, _, dwell_formsRecord _⟩,
    ⟨_, _, _, .inr (.inr (.inr ⟨1021, 1000, rfl, rfl, by decide, rfl, by decide, rfl, rfl, rfl, rfl⟩)), by decide⟩⟩

theorem meets_JudgementRecorded :
    (∃ x rec, formsRecord (.dwellComplete 0) 0 (dwelling 252) dwell0 x [] rec) ∧
    (∃ x rec, formsRecord (.dwellComplete 0) 0 (dwelling 251) dwell0 x [] rec) ∧
    (dwelling 252).transientsClear ∧ 252 ≤ (dwelling 252).results.records.length ∧
    ((dwelling 252).chan 0).running = some dwell0 ∧ ((dwelling 251).chan 0).running = some dwell0 ∧
    (dwelling 251).transientsClear ∧ (dwelling 251).countersPassive ∧ (dwelling 251).countersStill ∧
    (dwelling 251).dispatchQuiet ∧ (dwelling 251).results.records.length < 252 :=
  ⟨⟨_, _, dwell_formsRecord _⟩, ⟨_, _, dwell_formsRecord _⟩, by decide +kernel⟩

/-- A dwell in an ACTIVE run with nothing waiting, a slot free and 8 entries in the release queue; a CONTACT step that
overranges on an ACTIVE site with an instance waiting, dispatch paused or not; the last post of a DRAINING bank, and the
post that ends the run; a HALT counter that the post wraps. -/
theorem meets_PostParksOrReleases :
    let s := relaysAs (onZero (reading still [] 1) dwell0 .empty) [node 1 (.held 0 .forceLine)] [] []
    let f := relaysAs s s.relays.nodes (queueOf 8) []
    let d := s.withPlan { s.plan with a := { s.plan.a with state := .draining } }
    let z := d.withDisp { d.disp with fetch := .atEnd .a }
    let c := acquiring (pausedOf ((reading still [] 2).withWindow [entry0])) contact0 true
    let o := acquiring ((reading still [] 2).withWindow [entry0]) contact0 true
    let h := s.withCounters { State.reset.counters with
      units := State.reset.counters.units.set 0 { Counter.reset with action := .halt, value := 4294967295 } }
    (∃ x rec, formsRecord (.dwellComplete 0) 0 s dwell0 x [] rec) ∧
    (∃ x rec, formsRecord (.dwellComplete 0) 0 f dwell0 x [] rec) ∧
    (∃ x rec, formsRecord (.acquisitionComplete 0 1000) 0 c contact0 x [] rec ∧ rec.outcome ≠ .pass) ∧
    (∃ x rec, formsRecord (.dwellComplete 0) 0 z dwell0 x [] rec) ∧
    (z.dispatchQuiet ∧ z.disp.fetch = .atEnd .a ∧ z.disp.window = [] ∧ (z.plan.get .a).state = .draining ∧
      (z.plan.get .a).live = 1 ∧ ∀ e, e ≠ 0 → (z.chan e).running = none) ∧
    (s.relays.nodes.wf = true ∧ s.transientsClear ∧ s.countersPassive ∧ s.run.state = .active ∧ s.disp.paused = false ∧
      s.dispatchQuiet ∧ (∀ b, s.disp.fetch ≠ .atEnd b) ∧ (s.chan 0).running = some dwell0 ∧
      s.results.records.length < 252 ∧ s.relays.waitList = [] ∧ s.relays.queue.length < 8 ∧
      s.relays.nodes.state 1 = .held 0 .forceLine ∧ (s.plan.get .a).state ≠ .draining) ∧
    (f.dispatchQuiet ∧ f.relays.nodes.state 1 = .held 0 .forceLine ∧ ¬ f.relays.queue.length < 8) ∧
    (c.dispatchQuiet ∧ c.countersPassive ∧ (∀ b, c.disp.fetch ≠ .atEnd b) ∧ c.siteState 0 = .active ∧
      (c.disp.window.filter fun e => decide (e.inst.site = .board 0)) ≠ []) ∧
    ((∃ x rec, formsRecord (.acquisitionComplete 0 1000) 0 o contact0 x [] rec) ∧ o.countersPassive ∧
      o.disp.paused = false ∧ o.disp.window = [entry0] ∧ o.run.state = .active) ∧
    ((∃ x rec, formsRecord (.dwellComplete 0) 0 h dwell0 x [] rec) ∧ h.dispatchQuiet ∧ h.noRetireWrap ∧
      h.transientsClear ∧ (h.counters.units.get 0).action = .halt ∧ h.run.state = .active) :=
  ⟨⟨_, _, dwell_formsRecord _⟩, ⟨_, _, dwell_formsRecord _⟩,
    ⟨_, _, .inr (.inl ⟨1000, 1000, .inl rfl, rfl, by decide, rfl, by decide, by decide, by decide, rfl, rfl, rfl⟩),
      by decide⟩,
    ⟨_, _, dwell_formsRecord _⟩, by decide,
    ⟨rfl, by decide, by decide, rfl, rfl, by decide, (fun _ h => by cases h), by decide⟩, by decide,
    ⟨by decide, by decide, (fun _ h => by cases h), by decide⟩,
    ⟨⟨_, _, .inr (.inl ⟨1000, 1000, .inl rfl, rfl, by decide, rfl, by decide, by decide, by decide, rfl, rfl, rfl⟩)⟩,
      by decide⟩,
    ⟨_, _, dwell_formsRecord _⟩, by decide⟩

/-- Two posts waiting behind 252 records: a READ_RESULTS of n = 1 takes one record and grants one, of n = 2 both;
a HALT counter of an ACTIVE run that the first grant wraps, and one that the second wraps with nothing to dispatch. -/
theorem meets_ReadResultsServed :
    let r (c : Chan) := judgedRecord c State.reset (run0 .settling) (.bare .unsettled) 1 0 0
    let s := onZero (holding still 252) (run0 (.posting (r 0))) .empty
    let v := s.withChan 1 { s.chan 1 with running := some (run0 (.posting (r 1))) }
    let u := v.withResults { s.results with waiting := [0, 1] }
    let h := (u.withCounters { State.reset.counters with
      units := State.reset.counters.units.set 0
        { Counter.reset with action := .halt, value := 4294967295 } }).withRun { u.run with state := .active }
    let g := h.withCounters { h.counters with
      units := h.counters.units.set 0 { Counter.reset with action := .halt, value := 4294967294 } }
    let left (n : Byte) := u.results.records.drop (max 1 (min 32 n.toNat))
    (State.reset.linkOpen ∧ State.reset.results.waiting = []) ∧
    (h.linkOpen ∧ h.transientsClear ∧ h.counters.frozen = false ∧ h.run.state = .active ∧
      (h.counters.units.get 0).action = .halt ∧ (h.counters.units.get 0).matchesOcc (resultEvent (r 0)) = true ∧
      4294967296 ≤ (h.counters.units.get 0).value.toNat + (h.counters.units.get 0).amount 1 ∧ (left 1).length < 252) ∧
    (g.linkOpen ∧ g.transientsClear ∧ g.dispatchQuiet ∧ g.noRetireWrap ∧ g.relays.nodes.wf = true ∧
      g.run.state = .active ∧ (g.offer (resultEvent (r 0))).run.haltAsked = false ∧
      ((g.offer (resultEvent (r 0))).offer (resultEvent (r 1))).run.haltAsked = true) ∧
    (u.linkOpen ∧ u.results.waiting.Nodup ∧ u.transientsClear ∧ u.countersPassive ∧ u.dispatchQuiet ∧
      u.relays.nodes.wf = true ∧
      min 2 (252 - (left 1).length) = 1 ∧ min 2 (252 - (left 2).length) = 2) ∧
    List.Forall₂ (fun c rec => ∃ k, (u.chan c).running = some k ∧ k.phase = .posting rec) u.results.waiting [r 0, r 1] :=
  ⟨by decide, by decide +kernel, by decide +kernel, by decide +kernel, .cons ⟨_, rfl, rfl⟩ (.cons ⟨_, rfl, rfl⟩ .nil)⟩

theorem meets_ResultRecordBytes :
    let r : ResultRecord :=
      { judgedRecord 3 State.reset (run0 .settling) (.bare .low) 4 3 65540 with
        label := 65535, stepIndex := 255, group := 15, reading := some (-8388608) }
    r.label < 65536 ∧ r.stepIndex < 256 ∧ r.group < 16 ∧ r.attempts < 16 ∧ r.resettles < 16 ∧
      r.settleSamples < 4294967296 ∧ r.reading = some (-8388608) := by decide

/-- A record with signed fields at the bottom of their ranges. -/
theorem meets_LoadPayloadRoundTrip :
    let w : WireRecord := { wire0 with level := -32768, null := -8388608 }
    [w].length ≤ 255 ∧ w.label < 65536 ∧ w.group < 256 ∧ w.range < 256 ∧ w.acquireExp < 256 ∧ -32768 ≤ w.level ∧
      w.level ≤ 32767 ∧ w.band < 65536 ∧ w.dwell < 65536 ∧ w.units < 256 ∧ w.prescale < 256 ∧ w.resettleLimit < 256 ∧
      w.retries < 256 ∧ w.scaleExp < 256 ∧ -8388608 ≤ w.null ∧ w.null ≤ 8388607 ∧ w.scale < 65536 ∧
      -8388608 ≤ w.lo ∧ w.lo ≤ 8388607 ∧ -8388608 ≤ w.hi ∧ w.hi ≤ 8388607 ∧ w.force.length < 256 ∧
      w.ret.length < 256 ∧ w.guard.length < 256 ∧ ∀ n ∈ w.force ++ w.ret ++ w.guard, n < 65536 := by decide

/-- Counter 7 with edge and a level event, every mask full and group ANY. -/
theorem meets_CounterRequestsServed :
    State.reset.linkOpen ∧ ([7, 9, 15, 255, 1, 16, 127, 255, 1, 1, 3, 255, 255, 255, 255] : List Byte).length = 15 ∧
      ¬ (7 < (7 : Byte).toNat ∨ 9 < (9 : Byte).toNat ∨ 15 < (15 : Byte).toNat ∨ 1 < (1 : Byte).toNat ∨
        16 < (16 : Byte).toNat ∨ 127 < (127 : Byte).toNat ∨ 3 < (3 : Byte).toNat ∨
        ((1 : Byte) = 1 ∧ (9 : Byte).toNat < 6)) := by decide

/-- A counter that wraps; one with a threshold and edge whose memory is held, and whose condition holds with invert; a
halt asked for in an ACTIVE run and in another. -/
theorem meets_OccurrenceCounted :
    let o := Occurrence.ofInst .close 9 0 inst0
    let k : Counter := { Counter.reset with event := .close, value := 4294967290, action := .retire, siteMask := 1 }
    let e : Counter := { k with threshold := 9, edge := true, edgeHeld := true }
    (k.matchesOcc o = true ∧ State.reset.counters.frozen = false ∧ 4294967296 ≤ k.value.toNat + k.amount o.value ∧
      k.siteMask.getLsbD (0 : Fin 8).val = true ∧ (State.reset.setSiteState 0 .active).siteState 0 = .active) ∧
    (o.site = some (.board 0) ∧ o.group = some 2 ∧ { k with group := some 3 }.matchesOcc o = false) ∧
    (k.threshold = 0 ∧ e.threshold ≠ 0 ∧ e.threshold ≤ 9 ∧ { e with invert := true }.invert = true ∧ 8 < e.threshold) ∧
    (let a := State.reset.withRun { State.reset.run with haltAsked := true, state := .active }
     a.run.haltAsked = true ∧ a.relays.nodes.wf = true ∧ State.reset.run.state ≠ .active) := by
  decide

/-- A counter of an action whose next tick wraps it: it reads the count of the Result Queue. -/
def wrapping (a : CounterAction) : Counter :=
  { Counter.reset with event := .queue, value := 4294967295, action := a }

/-- An ACTIVE run with an instance of site 0 waiting, one record held and that counter as counter 0. -/
def ticking (a : CounterAction) : State :=
  (holding ((reading State.reset [] 1).withWindow [entry0]) 1).setCounter 0 (wrapping a)

/-- A tick to take and one that is not due; a counter of each level event, and an entry each shows; a HALT and a RETIRE
counter that a tick of an ACTIVE run wraps, the RETIRE counter with dispatch paused and not. -/
theorem meets_MonitorTickCounted :
    (State.reset.link.settled ∧ State.reset.time.toNat % 4 = 0 ∧ State.reset.tickTaken = false ∧
      State.reset.transientsClear ∧ (∀ i, (State.reset.counters.units.get i).action = .none) ∧
      ({ State.reset with time := 1 } : State).time.toNat % 4 ≠ 0) ∧
    ({ Counter.reset with event := .window } : Counter).shows entry0 = true ∧
    ({ Counter.reset with event := .blocked, group := some 3 } : Counter).shows entry0 = false ∧
    ({ Counter.reset with event := .busy } : Counter).event = .busy ∧
    (∀ a, (ticking a).link.settled ∧ (ticking a).transientsClear ∧ (ticking a).time.toNat % 4 = 0 ∧
      (ticking a).tickTaken = false ∧ (ticking a).relays.nodes.wf = true ∧ (ticking a).run.state = .active ∧
      (ticking a).counters.frozen = false ∧ ((ticking a).counters.units.get 0).action = a ∧
      4294967296 ≤ (wrapping a).value.toNat + (wrapping a).amount ((ticking a).levelValue (wrapping a)) ∧
      (wrapping a).siteMask.getLsbD 0 = true ∧ (ticking a).siteState 0 = .active) ∧
    (pausedOf (ticking .retire)).dispatchQuiet :=
  ⟨by decide, by decide, by decide, rfl, fun a => by cases a <;> decide, by decide⟩

/-- R139: the tick that wraps a RETIRE counter retires site 0, whose waiting instance leaves the window and is counted as
skipped; SITE_RETIRED and COUNTER_OVERFLOW are pending. -/
theorem test_monitor_tick_retires :
    look .monitorTick (ticking .retire) (fun t => (t.siteState 0, t.disp.window, t.sites.entries.e0.skipped,
      Notice.siteRetired.isIn t.link.pendingSet, Notice.counterOverflow.isIn t.link.pendingSet)) =
      some (.retired .limit, [], 1, true, true) := by decide +kernel

/-- A loss of 1999 µs, and of 2000 µs in an ACTIVE run. -/
theorem meets_SenseLinesQualified :
    let lost : RunControl := { State.reset.run with vac := { present := false, timer := some 60000, latch := false } }
    let s : State := { State.reset with time := 62000, run := { lost with state := .active } }
    s.link.settled ∧ (s.sense .vacOk).timer = some 60000 ∧ 2000 ≤ (s.time - 60000).toNat ∧ s.run.state = .active ∧
      s.relays.nodes.wf = true ∧
      ((61999 : Time) - 60000).toNat < 2000 ∧ ({ State.reset with run := lost } : State).run.state ≠ .active := by decide

theorem meets_StepKeepsBounds :
    State.reset.bounded ∧ step State.reset = exec .monitorTick State.reset := ⟨by decide, rfl⟩

theorem meets_StepKeepsStimulusSafe : (measuring .settling).stimulusSafe := by decide

theorem meets_StepKeepsParkedSafe :
    (relaysAs State.reset [node 3 (.parked 1 .forceLine)] [] []).parkedSafe :=
  ⟨by decide, fun _ c _ _ => by fin_cases c <;> rfl⟩

theorem meets_StepKeepsRunSound : (reading State.reset [step0] 0).runSound := by
  refine ⟨fun h => absurd rfl h, ⟨fun b h => ?_, fun h => by cases h⟩, by decide, fun _ => by decide⟩
  cases b
  · rfl
  · cases h

end Sys2Proof.Tests
end

section
/-! SUPPORT. Notices: what a raise leaves pending, and what keeps the pending set. -/

namespace Sys2Proof.Machine

-- One proof after another: each thread's stack counts toward the memory limit of the compile.
set_option Elab.async false

theorem Notice.isIn_mask (k m : Notice) : k.isIn m.mask = decide (k = m) := by
  cases k <;> cases m <;> decide

/-- After a raise the kind raised is pending, and every other kind as before (R171). -/
theorem Link.isIn_raise (l : Link) (k m : Notice) :
    m.isIn (l.raise k).pendingSet = (m.isIn l.pendingSet || decide (m = k)) := by
  have hor : m.isIn (l.pendingSet ||| k.mask) = (m.isIn l.pendingSet || decide (m = k)) := by
    rw [← Notice.isIn_mask]; simp [Notice.isIn]
  unfold Link.raise
  split
  next h =>
    by_cases hm : m = k
    · subst hm; simp [h]
    · simp [hm]
  next => exact hor

@[simp] theorem State.isIn_raise (s : State) (k m : Notice) :
    m.isIn (s.raise k).link.pendingSet = (m.isIn s.link.pendingSet || decide (m = k)) :=
  Link.isIn_raise s.link k m

/-- Raising a pending kind changes nothing (R171). -/
theorem State.raise_of_pending {s : State} {k : Notice} (h : k.isIn s.link.pendingSet = true) : s.raise k = s := by
  unfold State.raise Link.raise
  rw [if_pos h, State.withLink_self]

theorem State.pendingKept_refl (s : State) : s.pendingKept s := fun _ h => h

theorem State.pendingKept.trans {s t u : State} (h : s.pendingKept t) (g : t.pendingKept u) : s.pendingKept u :=
  fun k hk => g k (h k hk)

theorem State.pendingKept_of_eq {s t : State} (h : t.link.pendingSet = s.link.pendingSet) : s.pendingKept t := by
  intro k hk; rw [h]; exact hk

theorem State.pendingKept_raise (s : State) (k : Notice) : s.pendingKept (s.raise k) := by
  intro m hm; simp [hm]

@[simp] theorem Link.sendReply_pendingSet (l : Link) : l.sendReply.pendingSet = l.pendingSet := by
  unfold Link.sendReply; split <;> rfl

@[simp] theorem Link.startFrame_pendingSet (l : Link) : l.startFrame.pendingSet = l.pendingSet := by
  unfold Link.startFrame
  split
  · rfl
  · split
    · split <;> simp
    · simp

@[simp] theorem State.transmit_pendingSet (s : State) : s.transmit.link.pendingSet = s.link.pendingSet :=
  Link.startFrame_pendingSet s.link

end Sys2Proof.Machine
end

section
/-! SUPPORT. Live counts and site retirement (R13, R17, R32, R34): what each operation leaves, field by field, and the
retirement in the terms of the statements. -/

namespace Sys2Proof.Machine

-- One proof after another: each thread's stack counts toward the memory limit of the compile.
set_option Elab.async false

/-! ## Live counts and drains -/

/-- Lowering a bank's live count by `k` completes its drain (R17). -/
def State.drainedBy (s : State) (w : BankId) (k : Nat) : Prop :=
  k ≠ 0 ∧ s.run.state = .active ∧ (s.plan.get w).state = .draining ∧ (s.plan.get w).live ≤ k

theorem State.active_iff (s : State) : s.active = true ↔ s.run.state = .active := by simp [State.active]

theorem State.drainIfDone_pos {s : State} {w : BankId}
    (h : s.run.state = .active ∧ (s.plan.get w).state = .draining ∧ (s.plan.get w).live = 0) :
    s.drainIfDone w = (s.emptyBank w).raise .bankDone := by
  unfold State.drainIfDone; rw [if_pos (by simp [State.active, h])]

theorem State.drainIfDone_neg {s : State} {w : BankId}
    (h : ¬ (s.run.state = .active ∧ (s.plan.get w).state = .draining ∧ (s.plan.get w).live = 0)) :
    s.drainIfDone w = s := by
  unfold State.drainIfDone; rw [if_neg (by simpa [State.active, and_assoc] using h)]

theorem State.lowerLive_of_drained {s : State} {w : BankId} {k : Nat} (h : s.drainedBy w k) :
    (∀ v, (s.lowerLive w k).plan.get v = if v = w then Bank.reset else s.plan.get v) ∧
      ∀ m : Notice, m.isIn (s.lowerLive w k).link.pendingSet = (m.isIn s.link.pendingSet || decide (m = .bankDone)) := by
  obtain ⟨hk, ha, hd, hl⟩ := h
  unfold State.lowerLive
  simp only [if_neg hk]
  rw [State.drainIfDone_pos (by simp [ha, hd]; omega)]
  refine ⟨fun v => ?_, fun m => by simp⟩
  by_cases hv : v = w <;> simp [State.emptyBank, hv]

theorem State.lowerLive_of_not_drained {s : State} {w : BankId} {k : Nat} (h : ¬ s.drainedBy w k) :
    s.lowerLive w k = s.withPlan (s.plan.set w { s.plan.get w with live := (s.plan.get w).live - k }) := by
  unfold State.lowerLive
  by_cases hk : k = 0
  · subst hk
    cases w <;> simp [State.withPlan, Plan.set, Plan.get]
  · simp only [if_neg hk]
    refine State.drainIfDone_neg fun hc => h ?_
    simp only [State.withPlan_run, State.withPlan_plan, Plan.get_set, if_pos] at hc
    exact ⟨hk, hc.1, hc.2.1, by omega⟩

/-- A live count lowered: the bank named loses `k`, or is drained with BANK_DONE; the other bank stands. -/
theorem State.lowerLive_get (s : State) (w v : BankId) (k : Nat) :
    (s.drainedBy w k → (s.lowerLive w k).plan.get w = Bank.reset ∧
      Notice.bankDone.isIn (s.lowerLive w k).link.pendingSet = true) ∧
    (¬ s.drainedBy w k →
      (s.lowerLive w k).plan.get w = { s.plan.get w with live := (s.plan.get w).live - k }) ∧
    (v ≠ w → (s.lowerLive w k).plan.get v = s.plan.get v) := by
  by_cases h : s.drainedBy w k
  · obtain ⟨hp, hn⟩ := State.lowerLive_of_drained h
    exact ⟨fun _ => by simp [hp, hn], fun hc => absurd h hc, fun hv => by simp [hp, hv]⟩
  · refine ⟨fun hc => absurd hc h, fun _ => ?_, fun hv => ?_⟩ <;> rw [State.lowerLive_of_not_drained h] <;> simp [*]

theorem State.pendingKept_lowerLive (s : State) (w : BankId) (k : Nat) : s.pendingKept (s.lowerLive w k) := by
  by_cases h : s.drainedBy w k
  · intro m hm; rw [(State.lowerLive_of_drained h).2, hm]; rfl
  · rw [State.lowerLive_of_not_drained h]; exact s.pendingKept_refl

/-- Both banks' live counts lowered, one after the other, as `liveLowered` says. -/
theorem liveLowered_lowerLive (s : State) (lost : BankId → Nat) :
    liveLowered s lost ((s.lowerLive .a (lost .a)).lowerLive .b (lost .b)) := by
  set t := s.lowerLive .a (lost .a) with ht
  have ha := s.lowerLive_get .a .b (lost .a)
  have hb := t.lowerLive_get .b .a (lost .b)
  have hrun : t.run.state = s.run.state := by simp [t]
  have hplan : t.plan.get .b = s.plan.get .b := ha.2.2 (by decide)
  have hdb : t.drainedBy .b (lost .b) ↔ s.drainedBy .b (lost .b) := by
    simp only [State.drainedBy, hrun, hplan]
  intro w
  cases w
  case a =>
    rw [hb.2.2 (by decide)]
    exact ⟨fun h => ⟨(ha.1 h).1, t.pendingKept_lowerLive .b _ _ (ha.1 h).2⟩, ha.2.1⟩
  case b =>
    rw [← hplan]
    exact ⟨fun h => hb.1 (hdb.2 (by simpa only [State.drainedBy, hplan] using h)),
      fun h => hb.2.1 fun hc => h (by simpa only [State.drainedBy, hplan] using hdb.1 hc)⟩

/-! ## The model's own transient fields -/

/-- The state with the examination flag set to a value. -/
def State.withExamDue (s : State) (e : Bool) : State := s.withDisp { s.disp with examDue := e }

theorem State.withExamDue_self {s : State} {e : Bool} (h : s.disp.examDue = e) : s.withExamDue e = s := by
  subst h; rfl

@[simp] theorem State.withExamDue_withExamDue (s : State) (d e : Bool) :
    (s.withExamDue d).withExamDue e = s.withExamDue e := rfl

@[simp] theorem State.withExamDue_disp (s : State) (e : Bool) :
    (s.withExamDue e).disp = { s.disp with examDue := e } := rfl

/-! ## Retirement of a site -/

@[simp] theorem State.setSiteState_get (s : State) (i j : Fin 8) (x : SiteState) :
    (s.setSiteState i x).sites.entries.get j =
      if j = i then { s.sites.entries.get i with state := x } else s.sites.entries.get j := by
  simp [State.setSiteState]

@[simp] theorem State.addSkipped_get (s : State) (i j : Fin 8) (k : Nat) :
    (s.addSkipped i k).sites.entries.get j =
      if j = i then { s.sites.entries.get i with skipped := bumpBy 65535 k (s.sites.entries.get i).skipped }
      else s.sites.entries.get j := by
  simp [State.addSkipped, Config.skippedMax]

theorem State.retire_of_not_active {s : State} {j : Fin 8} {why : RetireReason} (h : s.siteState j ≠ .active) :
    s.retire j why = s := by
  unfold State.retire; rw [if_neg h]

/-- A removal with nothing to remove. -/
theorem State.removeWaiting_of_eq {s : State} {j : Fin 8} (h : s.entriesOf j = []) : s.removeWaiting j = s := by
  unfold State.removeWaiting; rw [if_pos h]

/-- A removal with something to remove: the window, the site's skipped count and the two live counts, and the
examination it starts (R34). -/
theorem State.removeWaiting_of_ne {s : State} {j : Fin 8} (h : s.entriesOf j ≠ []) :
    s.removeWaiting j =
      ((((s.withWindow (s.disp.window.filter fun e => !(decide (e.inst.site = .board j)))).addSkipped j
        (s.entriesOf j).length).lowerLive .a (s.entriesOfBank j .a)).lowerLive .b (s.entriesOfBank j .b)).noteExam := by
  unfold State.removeWaiting; rw [if_neg h]

/-- The retirement of an ACTIVE site with nothing in the window (R32). -/
theorem State.retire_of_eq {s : State} {j : Fin 8} {why : RetireReason} (h : s.siteState j = .active)
    (hg : s.entriesOf j = []) : s.retire j why = (s.setSiteState j (.retired why)).raise .siteRetired := by
  have hg' : (s.setSiteState j (.retired why)).entriesOf j = [] := hg
  unfold State.retire; rw [if_pos h, State.removeWaiting_of_eq hg']

/-- A site retired, and its waiting entries out of the window and counted as skipped. -/
def State.struckOff (s : State) (j : Fin 8) (why : RetireReason) : State :=
  ((s.setSiteState j (.retired why)).withWindow
    (s.disp.window.filter fun e => !(decide (e.inst.site = .board j)))).addSkipped j (s.entriesOf j).length

/-- The retirement of an ACTIVE site with something in the window (R32, R34). -/
theorem State.retire_of_ne {s : State} {j : Fin 8} {why : RetireReason} (h : s.siteState j = .active)
    (hg : s.entriesOf j ≠ []) :
    s.retire j why =
      ((((s.struckOff j why).lowerLive .a (s.entriesOfBank j .a)).lowerLive .b (s.entriesOfBank j .b)).noteExam).raise
        .siteRetired := by
  have hg' : (s.setSiteState j (.retired why)).entriesOf j ≠ [] := hg
  unfold State.retire
  rw [if_pos h, State.removeWaiting_of_ne hg']
  rfl

/-- A table of sites is its count and its eight entries. -/
theorem SiteTable.ext_get {x y : SiteTable} (hc : x.count = y.count) (h : ∀ j, x.entries.get j = y.entries.get j) :
    x = y := by
  obtain ⟨c, f⟩ := x; obtain ⟨d, g⟩ := y
  simp only at hc h
  rw [hc, Eight.ext_get h]

/-- `t` differs from `s` in the plan, the sites, the link and the dispatcher alone. -/
theorem State.eq_of_frame {s t : State} (h1 : t.time = s.time) (h2 : t.tickTaken = s.tickTaken)
    (h3 : t.relays = s.relays) (h4 : t.chans = s.chans) (h5 : t.results = s.results) (h6 : t.counters = s.counters)
    (h7 : t.run = s.run) (h8 : t.pending = s.pending) :
    t = { s with plan := t.plan, sites := t.sites, link := t.link, disp := t.disp } := by
  cases t; cases s; simp_all

/-- The window after a retirement. -/
theorem State.retire_window {s : State} {j : Fin 8} {why : RetireReason} (h : s.siteState j = .active) :
    (s.retire j why).disp.window = s.disp.window.filter fun e => decide (e.inst.site ≠ .board j) := by
  by_cases hg : s.entriesOf j = []
  · have hall : ∀ e ∈ s.disp.window, e.inst.site ≠ .board j := by
      simpa [State.entriesOf, List.filter_eq_nil_iff] using hg
    rw [State.retire_of_eq h hg, State.raise_disp, State.setSiteState_disp]
    exact (List.filter_eq_self.2 fun e he => by simpa using hall e he).symm
  · rw [State.retire_of_ne h hg]
    simp [State.struckOff]

/-- An examination is due after a retirement where one was, or where an entry left the window. -/
theorem State.retire_examDue {s : State} {j : Fin 8} {why : RetireReason} (h : s.siteState j = .active) :
    (s.retire j why).disp.examDue =
      (s.disp.examDue || decide ((s.retire j why).disp.window.length < s.disp.window.length)) := by
  by_cases hg : s.entriesOf j = []
  · rw [State.retire_of_eq h hg]
    simp
  · have hlt : (s.retire j why).disp.window.length < s.disp.window.length := by
      rw [State.retire_window h, List.length_filter_lt_length_iff_exists]
      obtain ⟨e, he⟩ := List.exists_mem_of_ne_nil _ hg
      simp only [State.entriesOf, List.mem_filter, decide_eq_true_eq] at he
      exact ⟨e, he.1, by simp [he.2]⟩
    rw [decide_eq_true hlt, State.retire_of_ne h hg]
    simp

theorem State.pendingKept_retire (s : State) (j : Fin 8) (why : RetireReason) : s.pendingKept (s.retire j why) := by
  by_cases h : s.siteState j = .active
  · by_cases hg : s.entriesOf j = []
    · rw [State.retire_of_eq h hg]
      exact State.pendingKept_raise (s.setSiteState j (.retired why)) .siteRetired
    · rw [State.retire_of_ne h hg]
      have h1 : s.pendingKept ((s.struckOff j why).lowerLive .a (s.entriesOfBank j .a)) :=
        State.pendingKept_lowerLive (s.struckOff j why) .a _
      exact (h1.trans (State.pendingKept_lowerLive _ .b _)).trans (State.pendingKept_raise _ .siteRetired)
  · rw [State.retire_of_not_active h]; exact s.pendingKept_refl

/-- The site entries after a retirement: the site's own is retired with its waiting entries counted as skipped. -/
theorem State.retire_get {s : State} {j : Fin 8} {why : RetireReason} (h : s.siteState j = .active) (i : Fin 8) :
    (s.retire j why).sites.entries.get i =
      if i = j then
        { s.sites.entries.get j with
          state := .retired why
          skipped := if s.entriesOf j = [] then (s.sites.entries.get j).skipped
            else min 65535 ((s.sites.entries.get j).skipped + (s.entriesOf j).length) }
      else s.sites.entries.get i := by
  by_cases hg : s.entriesOf j = []
  · rw [State.retire_of_eq h hg, State.raise_sites, State.setSiteState_get]
    simp [hg]
  · rw [State.retire_of_ne h hg, if_neg hg]
    by_cases hi : i = j <;> simp [hi, bumpBy, State.struckOff]

/-- The live counts after a retirement (R13, R34). -/
theorem State.retire_liveLowered {s : State} {j : Fin 8} {why : RetireReason} (h : s.siteState j = .active) :
    liveLowered s (s.entriesOfBank j) (s.retire j why) := by
  by_cases hg : s.entriesOf j = []
  · rw [State.retire_of_eq h hg]
    intro w
    simp [State.entriesOfBank, hg]
  · rw [State.retire_of_ne h hg]
    intro w
    obtain ⟨hd, hn⟩ := liveLowered_lowerLive (s.struckOff j why) (s.entriesOfBank j) w
    exact ⟨fun hc => ⟨(hd hc).1, State.pendingKept_raise _ _ _ (hd hc).2⟩, hn⟩

theorem State.retire_siteRetired {s : State} {j : Fin 8} {why : RetireReason} (h : s.siteState j = .active) :
    Notice.siteRetired.isIn (s.retire j why).link.pendingSet = true := by
  unfold State.retire; rw [if_pos h]; simp

/-- The retirement of an ACTIVE site, but for the examination it starts, is what `siteWithdrawn` says. -/
theorem siteWithdrawn_retire {s : State} {j : Fin 8} {why : RetireReason} (h : s.siteState j = .active) :
    siteWithdrawn s j why ((s.retire j why).withExamDue s.disp.examDue) := by
  refine ⟨?_, State.retire_liveLowered h, State.retire_siteRetired h, State.pendingKept_retire s j why, ?_⟩
  · refine SiteTable.ext_get (by simp [State.withExamDue]) fun i => ?_
    change (s.retire j why).sites.entries.get i = _
    rw [State.retire_get h, Eight.get_set]
    rfl
  · have hframe := State.eq_of_frame (s := s) (t := (s.retire j why).withExamDue s.disp.examDue)
      (by simp [State.withExamDue]) (by simp [State.withExamDue]) (by simp [State.withExamDue])
      (by simp [State.withExamDue]) (by simp [State.withExamDue]) (by simp [State.withExamDue])
      (by simp [State.withExamDue]) (by simp [State.withExamDue])
    have hdisp : ((s.retire j why).withExamDue s.disp.examDue).disp =
        { s.disp with window := s.disp.window.filter fun e => decide (e.inst.site ≠ .board j) } := by
      rw [← State.retire_window (why := why) h]
      have hf := State.retire_disp_fetch s j why
      have hp := State.retire_disp_paused s j why
      have hs := State.retire_disp_starved s j why
      simp only [State.withExamDue_disp]
      rw [← hf, ← hp, ← hs]
    rw [hdisp] at hframe
    exact hframe

end Sys2Proof.Machine
end

section
/-! SUPPORT. Counting (R135 to R140): the eight counters rewritten together, and what their wraps do, in the terms of the
statements. -/

namespace Sys2Proof.Machine

-- One proof after another: each thread's stack counts toward the memory limit of the compile.
set_option Elab.async false

/-! ## LIMIT retirements, one after another -/

/-- The state with the counters, the two transient fields of counting and the examination set to given values: what a
retirement neither reads nor writes. -/
def State.withControls (s : State) (c : CounterBlock) (asked e : Bool) : State :=
  ((s.withCounters c).withRun { s.run with haltAsked := asked }).withExamDue e

theorem siteWithdrawn_withControls {s t : State} {j : Fin 8} {why : RetireReason} (h : siteWithdrawn s j why t)
    (c : CounterBlock) (asked e : Bool) :
    siteWithdrawn (s.withControls c asked e) j why (t.withControls c asked e) := by
  obtain ⟨hsites, hlive, hnote, hkept, heq⟩ := h
  exact ⟨hsites, hlive, hnote, hkept, congrArg (fun x => State.withControls x c asked e) heq⟩

theorem sitesRetired_append {js ks : List (Fin 8)} {s t u : State} (h : sitesRetired js s t)
    (g : sitesRetired ks t u) : sitesRetired (js ++ ks) s u := by
  induction js generalizing s with
  | nil => cases h; exact g
  | cons j js ih =>
    obtain ⟨v, hv, ht⟩ := h
    exact ⟨v, hv, ih ht⟩

theorem siteWithdrawn_siteState {s t : State} {j : Fin 8} {why : RetireReason} (h : siteWithdrawn s j why t)
    (i : Fin 8) : t.siteState i = if i = j then .retired why else s.siteState i := by
  obtain ⟨hsites, -⟩ := h
  unfold State.siteState
  rw [hsites]
  by_cases hi : i = j <;> simp [hi]

theorem sitesRetired_siteState {js : List (Fin 8)} {s t : State} (h : sitesRetired js s t) (i : Fin 8) :
    t.siteState i = if i ∈ js then .retired .limit else s.siteState i := by
  induction js generalizing s with
  | nil => cases h; simp
  | cons j js ih =>
    obtain ⟨u, hu, ht⟩ := h
    rw [ih ht, siteWithdrawn_siteState hu]
    by_cases hi : i = j <;> by_cases hm : i ∈ js <;> simp [hi, hm]

/-- A RETIRE action retires the ACTIVE sites of its list, each once. -/
theorem State.retireAll_sitesRetired (l : List (Fin 8)) (s : State) :
    ∃ js : List (Fin 8), js.Nodup ∧ (∀ j, j ∈ js ↔ s.siteState j = .active ∧ j ∈ l) ∧
      ∀ c asked e, sitesRetired js (s.withControls c asked e) ((s.retireAll l).withControls c asked e) := by
  induction l generalizing s with
  | nil => exact ⟨[], List.nodup_nil, by simp, fun _ _ _ => rfl⟩
  | cons i l ih =>
    obtain ⟨js, hnd, hmem, hr⟩ := ih (s.retire i .limit)
    by_cases hi : s.siteState i = .active
    · have hw := siteWithdrawn_retire (why := .limit) hi
      have hst : ∀ j, (s.retire i .limit).siteState j = if j = i then .retired .limit else s.siteState j :=
        fun j => siteWithdrawn_siteState hw j
      refine ⟨i :: js, List.nodup_cons.2 ⟨fun hc => ?_, hnd⟩, fun j => ?_, fun c asked e =>
        ⟨_, siteWithdrawn_withControls hw c asked e, hr c asked e⟩⟩
      · have := ((hmem i).1 hc).1
        rw [hst, if_pos rfl] at this
        cases this
      · by_cases hj : j = i <;> simp [hmem, hst, hj, hi]
    · rw [State.retire_of_not_active hi] at hmem hr
      refine ⟨js, hnd, fun j => ?_, fun c asked e => ?_⟩
      · by_cases hj : j = i <;> simp [hmem, hj, hi]
      · have : s.retireAll (i :: l) = s.retireAll l := by
          simp only [State.retireAll, List.foldl_cons, State.retire_of_not_active hi]
        rw [this]
        exact hr c asked e

/-! ## The effects of wraps -/

theorem mem_maskSites (m : BitVec 9) (j : Fin 8) : j ∈ maskSites m ↔ m.getLsbD j.val = true := by
  simp [maskSites, mem_allEight]

theorem State.raise_idem (s : State) (k : Notice) : (s.raise k).raise k = s.raise k :=
  State.raise_of_pending (by simp)

/-- A wrap's COUNTER_OVERFLOW may be raised beforehand. -/
theorem State.wrapEffects_raise (s : State) (k : Counter) :
    (s.raise .counterOverflow).wrapEffects k = s.wrapEffects k := by
  unfold State.wrapEffects; rw [State.raise_idem]

theorem State.wrapEffects_none {s : State} {k : Counter} (h : k.action = .none) :
    s.wrapEffects k = s.raise .counterOverflow := by
  unfold State.wrapEffects; simp [h]

theorem State.wrapEffects_freeze {s : State} {k : Counter} (h : k.action = .freeze) :
    s.wrapEffects k = (s.raise .counterOverflow).withCounters { s.counters with frozen := true } := by
  unfold State.wrapEffects; simp [h]

theorem State.wrapEffects_retire {s : State} {k : Counter} (h : k.action = .retire) :
    s.wrapEffects k = (s.raise .counterOverflow).retireAll (maskSites k.siteMask) := by
  unfold State.wrapEffects; simp [h]

theorem State.wrapEffects_halt {s : State} {k : Counter} (h : k.action = .halt) :
    s.wrapEffects k = (s.raise .counterOverflow).withRun { s.run with haltAsked := true } := by
  unfold State.wrapEffects; simp [h]

/-- A property of two states that is kept by a raise, by setting the frozen flag, by asking for a halt and by a LIMIT
retirement is kept by the effects of a wrap. -/
theorem State.wrapEffects_rel {R : State → State → Prop} (refl : ∀ s, R s s)
    (trans : ∀ {s t u}, R s t → R t u → R s u) (raise : ∀ s : State, R s (s.raise .counterOverflow))
    (freeze : ∀ s : State, R s (s.withCounters { s.counters with frozen := true }))
    (halt : ∀ s : State, R s (s.withRun { s.run with haltAsked := true }))
    (retire : ∀ (s : State) (j : Fin 8), R s (s.retire j .limit)) (s : State) (k : Counter) :
    R s (s.wrapEffects k) := by
  have hall : ∀ (l : List (Fin 8)) (t : State), R t (t.retireAll l) := by
    intro l
    induction l with
    | nil => exact refl
    | cons j l ih => exact fun t => trans (retire t j) (ih _)
  cases h : k.action
  case none => rw [State.wrapEffects_none h]; exact raise s
  case freeze => rw [State.wrapEffects_freeze h]; exact trans (raise s) (freeze _)
  case retire => rw [State.wrapEffects_retire h]; exact trans (raise s) (hall _ _)
  case halt => rw [State.wrapEffects_halt h]; exact trans (raise s) (halt _)

/-- A relation kept by every step of a fold holds from its start to its end. -/
theorem foldl_rel {σ α : Type} {R : σ → σ → Prop} (refl : ∀ s, R s s) (trans : ∀ {s t u}, R s t → R t u → R s u)
    (g : σ → α → σ) (l : List α) (h : ∀ s, ∀ x ∈ l, R s (g s x)) (s : σ) : R s (l.foldl g s) := by
  induction l generalizing s with
  | nil => exact refl s
  | cons x l ih =>
    exact trans (h s x (List.mem_cons_self ..)) (ih (fun t y hy => h t y (List.mem_cons_of_mem _ hy)) _)

theorem State.pendingKept_wrapEffects (s : State) (k : Counter) : s.pendingKept (s.wrapEffects k) :=
  State.wrapEffects_rel (R := State.pendingKept) State.pendingKept_refl State.pendingKept.trans
    (fun t => t.pendingKept_raise _) (fun t => t.pendingKept_refl) (fun t => t.pendingKept_refl)
    (fun t j => t.pendingKept_retire j _) s k

/-- The counters after some wraps: a FREEZE among them sets the frozen flag (R139). -/
theorem foldl_wrapEffects_counters (ks : List Counter) (s : State) :
    (ks.foldl State.wrapEffects s).counters =
      { s.counters with frozen := s.counters.frozen || ks.any fun k => decide (k.action = .freeze) } := by
  induction ks generalizing s with
  | nil => simp
  | cons k ks ih =>
    rw [List.foldl_cons, ih]
    cases h : k.action
    · simp [State.wrapEffects_none h, h]
    · simp [State.wrapEffects_freeze h, h]
    · simp [State.wrapEffects_retire h, h]
    · simp [State.wrapEffects_halt h, h]

/-- Run Control after some wraps: a HALT among them asks for a halt (R139). -/
theorem foldl_wrapEffects_run (ks : List Counter) (s : State) :
    (ks.foldl State.wrapEffects s).run =
      { s.run with haltAsked := s.run.haltAsked || ks.any fun k => decide (k.action = .halt) } := by
  induction ks generalizing s with
  | nil => simp
  | cons k ks ih =>
    rw [List.foldl_cons, ih]
    cases h : k.action
    · simp [State.wrapEffects_none h, h]
    · simp [State.wrapEffects_freeze h, h]
    · simp [State.wrapEffects_retire h, h]
    · simp [State.wrapEffects_halt h, h]

/-- With COUNTER_OVERFLOW pending, some wraps retire the ACTIVE sites of their RETIRE masks, each once. -/
theorem foldl_wrapEffects_sitesRetired (ks : List Counter) (s : State)
    (hp : Notice.counterOverflow.isIn s.link.pendingSet = true) :
    ∃ js : List (Fin 8), js.Nodup ∧
      (∀ j, j ∈ js ↔ s.siteState j = .active ∧
        ∃ k ∈ ks, k.action = .retire ∧ k.siteMask.getLsbD j.val = true) ∧
      ∀ c asked e,
        sitesRetired js (s.withControls c asked e) ((ks.foldl State.wrapEffects s).withControls c asked e) := by
  induction ks generalizing s with
  | nil => exact ⟨[], List.nodup_nil, by simp, fun _ _ _ => rfl⟩
  | cons k ks ih =>
    have hraise := State.raise_of_pending hp
    by_cases hk : k.action = .retire
    · have hstep : s.wrapEffects k = s.retireAll (maskSites k.siteMask) := by
        rw [State.wrapEffects_retire hk, hraise]
      obtain ⟨js, hnd, hmem, hr⟩ := s.retireAll_sitesRetired (maskSites k.siteMask)
      obtain ⟨is, hnd', hmem', hr'⟩ := ih (s.wrapEffects k) (s.pendingKept_wrapEffects k _ hp)
      have hst : ∀ j, (s.wrapEffects k).siteState j = if j ∈ js then .retired .limit else s.siteState j := by
        intro j
        rw [hstep]
        exact sitesRetired_siteState (hr s.counters false false) j
      refine ⟨js ++ is, ?_, fun j => ?_, fun c asked e => ?_⟩
      · refine List.nodup_append.2 ⟨hnd, hnd', fun a ha d hd => ?_⟩
        rintro rfl
        have := ((hmem' a).1 hd).1
        rw [hst, if_pos ha] at this
        cases this
      · rw [List.mem_append, hmem', hst]
        by_cases hj : j ∈ js
        · have hm := (hmem j).1 hj
          rw [mem_maskSites] at hm
          simp [hj, hm, hk]
        · have hn : ¬ (s.siteState j = .active ∧ k.siteMask.getLsbD j.val = true) := by
            rw [← mem_maskSites, ← hmem]; exact hj
          simp only [hj, false_or, if_false, List.mem_cons, exists_eq_or_imp, hk, true_and]
          tauto
      · rw [List.foldl_cons]
        exact sitesRetired_append (by rw [hstep]; exact hr c asked e) (hr' c asked e)
    · have hstep : ∀ c asked e, (s.wrapEffects k).withControls c asked e = s.withControls c asked e := by
        intro c asked e
        cases h : k.action
        · rw [State.wrapEffects_none h, hraise]
        · rw [State.wrapEffects_freeze h, hraise]; rfl
        · exact absurd h hk
        · rw [State.wrapEffects_halt h, hraise]; rfl
      have hsites : ∀ j, (s.wrapEffects k).siteState j = s.siteState j := fun j => by
        have hx := congrArg (fun x : State => x.siteState j) (hstep s.counters false false)
        exact hx
      obtain ⟨js, hnd, hmem, hr⟩ := ih (s.wrapEffects k) (s.pendingKept_wrapEffects k _ hp)
      refine ⟨js, hnd, fun j => ?_, fun c asked e => ?_⟩
      · simp [hmem, hsites, hk]
      · rw [← hstep]; exact hr c asked e

/-! ## The eight counters together -/

/-- The counters that a rewriting wraps, in ascending number. -/
def State.wrapping (s : State) (f : Counter → Counter × Bool) : List Counter :=
  s.counters.units.toList.filter fun k => (f k).2

/-- The state with the eight counters rewritten, before the effects of the wraps. -/
def State.rewritten (s : State) (f : Counter → Counter × Bool) : State :=
  let u := s.counters.units
  s.withCounters { s.counters with
    units := ⟨(f u.e0).1, (f u.e1).1, (f u.e2).1, (f u.e3).1, (f u.e4).1, (f u.e5).1, (f u.e6).1, (f u.e7).1⟩ }

theorem State.countAll_eq (s : State) (f : Counter → Counter × Bool) :
    s.countAll f = (s.wrapping f).foldl State.wrapEffects (s.rewritten f) := rfl

theorem State.rewritten_get (s : State) (f : Counter → Counter × Bool) (i : Fin 8) :
    (s.rewritten f).counters.units.get i = (f (s.counters.units.get i)).1 := by
  fin_cases i <;> rfl

theorem Eight.mem_toList {α : Type} (u : Eight α) (x : α) : x ∈ u.toList ↔ ∃ i, u.get i = x := by
  constructor
  · intro h
    simp only [Eight.toList, List.mem_cons, List.not_mem_nil, or_false] at h
    rcases h with h | h | h | h | h | h | h | h
    exacts [⟨0, h.symm⟩, ⟨1, h.symm⟩, ⟨2, h.symm⟩, ⟨3, h.symm⟩, ⟨4, h.symm⟩, ⟨5, h.symm⟩, ⟨6, h.symm⟩, ⟨7, h.symm⟩]
  · rintro ⟨i, rfl⟩
    fin_cases i <;> simp [Eight.toList, Eight.get]

theorem State.mem_wrapping (s : State) (f : Counter → Counter × Bool) (k : Counter) :
    k ∈ s.wrapping f ↔ ∃ i, s.counters.units.get i = k ∧ (f k).2 = true := by
  simp [State.wrapping, Eight.mem_toList]

/-- A counter of some property wraps. -/
theorem State.exists_mem_wrapping (s : State) (f : Counter → Counter × Bool) (p : Counter → Prop) :
    (∃ k ∈ s.wrapping f, p k) ↔ ∃ i, (f (s.counters.units.get i)).2 = true ∧ p (s.counters.units.get i) := by
  constructor
  · rintro ⟨k, hk, hp⟩
    obtain ⟨i, rfl, hw⟩ := (s.mem_wrapping f k).1 hk
    exact ⟨i, hw, hp⟩
  · rintro ⟨i, hw, hp⟩
    exact ⟨_, (s.mem_wrapping f _).2 ⟨i, rfl, hw⟩, hp⟩

theorem State.wrapping_eq_nil (s : State) (f : Counter → Counter × Bool) :
    s.wrapping f = [] ↔ ∀ i, (f (s.counters.units.get i)).2 = false := by
  rw [List.eq_nil_iff_forall_not_mem]
  constructor
  · intro h i
    by_contra hi
    exact h _ ((s.mem_wrapping f _).2 ⟨i, rfl, by simpa using hi⟩)
  · intro h k hk
    obtain ⟨i, rfl, hw⟩ := (s.mem_wrapping f k).1 hk
    rw [h i] at hw
    cases hw

/-- Where a counter wraps, COUNTER_OVERFLOW may be raised before the effects of the wraps. -/
theorem State.countAll_raise {s : State} {f : Counter → Counter × Bool} (h : s.wrapping f ≠ []) :
    s.countAll f = (s.wrapping f).foldl State.wrapEffects ((s.rewritten f).raise .counterOverflow) := by
  rw [State.countAll_eq]
  cases hk : s.wrapping f with
  | nil => exact absurd hk h
  | cons k ks => rw [List.foldl_cons, List.foldl_cons, State.wrapEffects_raise]

theorem State.countAll_get (s : State) (f : Counter → Counter × Bool) (i : Fin 8) :
    (s.countAll f).counters.units.get i = (f (s.counters.units.get i)).1 := by
  rw [State.countAll_eq, foldl_wrapEffects_counters]
  exact s.rewritten_get f i

/-- A wrapping FREEZE counter sets the frozen flag (R139). -/
theorem State.countAll_frozen (s : State) (f : Counter → Counter × Bool) :
    (s.countAll f).counters.frozen = true ↔
      s.counters.frozen = true ∨
        ∃ i, (f (s.counters.units.get i)).2 = true ∧ (s.counters.units.get i).action = .freeze := by
  rw [State.countAll_eq, foldl_wrapEffects_counters, ← s.exists_mem_wrapping f fun k => k.action = .freeze]
  simp [State.rewritten]

theorem State.countAll_run (s : State) (f : Counter → Counter × Bool) :
    (s.countAll f).run = { s.run with haltAsked := (s.countAll f).run.haltAsked } := by
  rw [State.countAll_eq, foldl_wrapEffects_run]
  rfl

/-- A wrapping HALT counter asks for a halt (R139). -/
theorem State.countAll_haltAsked (s : State) (f : Counter → Counter × Bool) :
    (s.countAll f).run.haltAsked = true ↔
      s.run.haltAsked = true ∨
        ∃ i, (f (s.counters.units.get i)).2 = true ∧ (s.counters.units.get i).action = .halt := by
  rw [State.countAll_eq, foldl_wrapEffects_run, ← s.exists_mem_wrapping f fun k => k.action = .halt]
  simp [State.rewritten]

theorem State.pendingKept_countAll (s : State) (f : Counter → Counter × Bool) : s.pendingKept (s.countAll f) := by
  rw [State.countAll_eq]
  exact foldl_rel (R := State.pendingKept) State.pendingKept_refl State.pendingKept.trans _ _
    (fun t k _ => t.pendingKept_wrapEffects k) (s.rewritten f)

/-- What counting does beyond the counters is what `wrapsTaken` says, but for the examination it starts. -/
theorem State.countAll_wrapsTaken (s : State) (f : Counter → Counter × Bool) :
    wrapsTaken s (s.countAll f).counters (s.countAll f).run.haltAsked
      (fun i => (f (s.counters.units.get i)).2 = true) ((s.countAll f).withExamDue s.disp.examDue) := by
  set c := (s.countAll f).counters
  set asked := (s.countAll f).run.haltAsked
  have hnamed := fun j : Fin 8 => s.exists_mem_wrapping f fun k =>
    k.action = .retire ∧ k.siteMask.getLsbD j.val = true
  by_cases hk : s.wrapping f = []
  · have hno : ∀ i, ¬ (f (s.counters.units.get i)).2 = true := fun i => by
      rw [(s.wrapping_eq_nil f).1 hk i]; decide
    refine ⟨(s.rewritten f).withControls c asked s.disp.examDue, [], fun ⟨i, hi⟩ => absurd hi (hno i), fun _ => rfl,
      List.nodup_nil, fun j => ?_, ?_⟩
    · simp [(s.wrapping_eq_nil f).1 hk]
    · change (s.countAll f).withControls c asked s.disp.examDue = _
      rw [State.countAll_eq, hk]
      rfl
  · obtain ⟨js, hnd, hmem, hr⟩ := foldl_wrapEffects_sitesRetired (s.wrapping f)
      ((s.rewritten f).raise .counterOverflow) (by simp)
    have hyes : ∃ i, (f (s.counters.units.get i)).2 = true := by
      simpa [s.wrapping_eq_nil f] using hk
    refine ⟨((s.rewritten f).raise .counterOverflow).withControls c asked s.disp.examDue, js, fun _ => rfl,
      fun hno => absurd hyes (by simpa using hno), hnd, fun j => ?_, ?_⟩
    · rw [hmem j, hnamed j]; rfl
    · have := hr c asked s.disp.examDue
      rw [← State.countAll_raise hk] at this
      exact this

theorem siteWithdrawn_siteRetired {s t : State} {j : Fin 8} {why : RetireReason} (h : siteWithdrawn s j why t) :
    Notice.siteRetired.isIn t.link.pendingSet = true ∧ s.pendingKept t := ⟨h.2.2.1, h.2.2.2.1⟩

theorem sitesRetired_siteRetired {js : List (Fin 8)} {s t : State} (h : sitesRetired js s t) :
    s.pendingKept t ∧ (js ≠ [] → Notice.siteRetired.isIn t.link.pendingSet = true) := by
  induction js generalizing s with
  | nil => cases h; exact ⟨State.pendingKept_refl _, fun hc => absurd rfl hc⟩
  | cons j js ih =>
    obtain ⟨u, hu, ht⟩ := h
    obtain ⟨hnote, hkept⟩ := siteWithdrawn_siteRetired hu
    exact ⟨hkept.trans (ih ht).1, fun _ => (ih ht).1 _ hnote⟩

/-- A wrapping RETIRE counter retires the ACTIVE sites of its mask (R139). -/
theorem wrapsTaken_retires {s t : State} {c : CounterBlock} {asked : Bool} {wraps : Fin 8 → Prop}
    (h : wrapsTaken s c asked wraps t) {i j : Fin 8} (hi : wraps i)
    (ha : (s.counters.units.get i).action = .retire)
    (hm : (s.counters.units.get i).siteMask.getLsbD j.val = true) (hj : s.siteState j = .active) :
    t.siteState j = .retired .limit ∧ Notice.siteRetired.isIn t.link.pendingSet = true := by
  obtain ⟨u, js, -, -, -, hmem, hr⟩ := h
  have hjs : j ∈ js := (hmem j).2 ⟨hj, i, hi, ha, hm⟩
  exact ⟨by rw [sitesRetired_siteState hr, if_pos hjs], (sitesRetired_siteRetired hr).2 (List.ne_nil_of_mem hjs)⟩

/-- An examination is due after counting where one was, or where an entry left the window. -/
def State.examTracked (s t : State) : Prop :=
  t.disp.window.length ≤ s.disp.window.length ∧
    t.disp.examDue = (s.disp.examDue || decide (t.disp.window.length < s.disp.window.length))

theorem State.examTracked_of_eq {s t : State} (h : t.disp = s.disp) : s.examTracked t := by
  simp [State.examTracked, h]

theorem State.examTracked.trans {s t u : State} (h : s.examTracked t) (g : t.examTracked u) : s.examTracked u := by
  obtain ⟨hl, he⟩ := h
  obtain ⟨gl, ge⟩ := g
  refine ⟨gl.trans hl, ?_⟩
  rw [ge, he]
  cases s.disp.examDue
  · rw [Bool.false_or, Bool.false_or, ← Bool.decide_or, decide_eq_decide]
    omega
  · rfl

theorem State.examTracked_retire (s : State) (j : Fin 8) (why : RetireReason) : s.examTracked (s.retire j why) := by
  by_cases h : s.siteState j = .active
  · refine ⟨?_, State.retire_examDue h⟩
    rw [State.retire_window h]
    exact List.length_filter_le ..
  · rw [State.retire_of_not_active h]
    exact State.examTracked_of_eq rfl

theorem State.examTracked_countAll (s : State) (f : Counter → Counter × Bool) : s.examTracked (s.countAll f) := by
  have hstep : ∀ (t : State) (k : Counter), t.examTracked (t.wrapEffects k) :=
    State.wrapEffects_rel (fun _ => State.examTracked_of_eq rfl) State.examTracked.trans
      (fun _ => State.examTracked_of_eq rfl) (fun _ => State.examTracked_of_eq rfl)
      (fun _ => State.examTracked_of_eq rfl) fun t j => t.examTracked_retire j _
  rw [State.countAll_eq]
  exact State.examTracked.trans (t := s.rewritten f) (State.examTracked_of_eq rfl)
    (foldl_rel (fun _ => State.examTracked_of_eq rfl) State.examTracked.trans _ _ (fun t k _ => hstep t k) _)

/-- COUNTER_OVERFLOW is pending after counting where it was, or where a counter wraps (R138). -/
theorem State.countAll_overflow (s : State) (f : Counter → Counter × Bool) :
    Notice.counterOverflow.isIn (s.countAll f).link.pendingSet = true ↔
      Notice.counterOverflow.isIn s.link.pendingSet = true ∨ ∃ i, (f (s.counters.units.get i)).2 = true := by
  by_cases hk : s.wrapping f = []
  · rw [State.countAll_eq, hk]
    simp [State.rewritten, (s.wrapping_eq_nil f).1 hk]
  · have hyes : ∃ i, (f (s.counters.units.get i)).2 = true := by
      simpa [s.wrapping_eq_nil f] using hk
    rw [State.countAll_raise hk]
    refine iff_of_true ?_ (Or.inr hyes)
    exact foldl_rel (R := State.pendingKept) State.pendingKept_refl State.pendingKept.trans _ _
      (fun t k _ => t.pendingKept_wrapEffects k) ((s.rewritten f).raise .counterOverflow) _ (by simp)

end Sys2Proof.Machine
end

section
/-! SUPPORT. The Relay Map's releases (R46, R47, R51, R52): the emergency open and the END release of a completed run, in
the terms of the statements. -/

namespace Sys2Proof.Machine

/-! ## Times and lists of nodes -/

theorem later_eq_laterTime (t u : Time) : later t u = laterTime t u := by
  simp [later, laterTime, reached]

/-- An expiry already at the later of two times is the later of the first and itself. -/
theorem laterTime_laterTime (t u : Time) : laterTime t (laterTime t u) = laterTime t u := by
  by_cases h : (u - t).toNat < 2147483648
  · have hu : laterTime t u = u := if_pos h
    rw [hu, hu]
  · have ht : laterTime t u = t := if_neg h
    rw [ht]
    exact ite_self t

theorem State.appendExpiry_eq (s : State) : s.appendExpiry = expiryAfter s.time s.relays := by
  unfold State.appendExpiry expiryAfter
  cases s.relays.queue.getLast? with
  | none => rfl
  | some e => exact later_eq_laterTime _ _

/-- The listed nodes of a table in canonical form are in strictly rising number. -/
theorem NodeTable.pairwise_of_rising (t : NodeTable) :
    ∀ lo, NodeTable.risingFrom lo t = true → (t.map Prod.fst).Pairwise (· < ·) := by
  induction t with
  | nil => intro _ _; exact List.Pairwise.nil
  | cons q t ih =>
    intro lo h
    rw [NodeTable.risingFrom_cons] at h
    rw [List.map_cons, List.pairwise_cons]
    refine ⟨fun m hm => ?_, ih _ h.2.2⟩
    obtain ⟨p, hp, rfl⟩ := List.mem_map.1 hm
    exact NodeTable.above_of_rising t (some q.1) h.2.2 q.1 rfl p hp

theorem NodeTable.pairwise_of_wf {t : NodeTable} (h : t.wf = true) : (t.map Prod.fst).Pairwise (· < ·) :=
  NodeTable.pairwise_of_rising t none h

/-- A selection of a table's nodes stands in the table's order. -/
theorem map_fst_filterMap_sublist {α β γ : Type} (f : α × β → Option (α × γ)) (hf : ∀ p q, f p = some q → q.1 = p.1)
    (l : List (α × β)) : ((l.filterMap f).map Prod.fst).Sublist (l.map Prod.fst) := by
  induction l with
  | nil => exact List.Sublist.refl _
  | cons p l ih =>
    cases h : f p with
    | none => rw [List.filterMap_cons_none h]; exact ih.cons _
    | some q => rw [List.filterMap_cons_some h, List.map_cons, List.map_cons, hf p q h]; exact ih.cons_cons _

/-- The nodes parked on a channel are listed in strictly rising number. -/
theorem NodeTable.pairwise_parkedOn {t : NodeTable} (h : t.wf = true) (c : Chan) :
    ((t.parkedOn c).map Prod.fst).Pairwise (· < ·) := by
  refine (NodeTable.pairwise_of_wf h).sublist (map_fst_filterMap_sublist _ (fun p q hpq => ?_) t)
  revert hpq
  cases p.2.state <;> simp
  intro _ hq
  rw [← hq]

theorem NodeTable.mem_map_parkedOn {t : NodeTable} (h : t.wf = true) (c : Chan) (n : Node) :
    n ∈ (t.parkedOn c).map Prod.fst ↔ ∃ l, t.state n = .parked c l := by
  simp [NodeTable.mem_parkedOn h]

theorem NodeTable.parkedOn_eq_nil {t : NodeTable} (h : t.wf = true) (c : Chan) :
    t.parkedOn c = [] ↔ ¬ ∃ n l, t.state n = .parked c l := by
  rw [List.eq_nil_iff_forall_not_mem]
  simp [NodeTable.mem_parkedOn h]

/-! ## Opening nodes -/

theorem openCommands_eq_opensOf (t : NodeTable) (ns : List Node) : ns.filterMap (openCommand t) = opensOf t ns := by
  unfold opensOf
  refine List.filterMap_congr fun n _ => ?_
  unfold openCommand
  cases t.state n <;> rfl

theorem opensOf_congr {t u : NodeTable} {ns : List Node} (h : ∀ n ∈ ns, t.state n = u.state n) :
    opensOf t ns = opensOf u ns := by
  unfold opensOf
  exact List.filterMap_congr fun n hn => by rw [h n hn]

/-- An entry once its node has been commanded open: a closed or closing node is OPENING, any other stands. -/
def openedEntry (e : NodeEntry) : NodeEntry :=
  match e.state.relay? with
  | some p => { e with state := .opening p.1 }
  | none => e

theorem openedEntry_openedEntry (e : NodeEntry) : openedEntry (openedEntry e) = openedEntry e := by
  obtain ⟨x, n⟩ := e
  cases x <;> rfl

theorem wf_openNode {t : NodeTable} (h : t.wf = true) (n : Node) : (openNode t n).wf = true := by
  unfold openNode
  split
  · exact NodeTable.wf_setState h _ _
  · exact h

theorem get_openNode {t : NodeTable} (h : t.wf = true) (n k : Node) :
    (openNode t n).get k = if k = n then openedEntry (t.get k) else t.get k := by
  unfold openNode openedEntry NodeTable.state
  by_cases hk : k = n
  · subst hk
    cases hs : (t.get k).state.relay? <;> simp [NodeTable.get_setState h]
  · cases hs : (t.get n).state.relay? <;> simp [NodeTable.get_setState h, hk]

/-- Some nodes opened one after another: each of them as `openedEntry` says, every other as it was. -/
theorem get_foldl_openNode (ns : List Node) {t : NodeTable} (h : t.wf = true) (k : Node) :
    (ns.foldl openNode t).get k = if k ∈ ns then openedEntry (t.get k) else t.get k := by
  induction ns generalizing t with
  | nil => simp
  | cons n ns ih =>
    rw [List.foldl_cons, ih (wf_openNode h n), get_openNode h]
    by_cases hn : k = n <;> by_cases hm : k ∈ ns <;> simp [hn, hm, openedEntry_openedEntry]

theorem State.wf_appendEntry {s : State} (h : s.relays.nodes.wf = true) (c : Chan) (cause : ReleaseCause)
    (ns : List Node) : (s.appendEntry c cause ns).relays.nodes.wf = true :=
  NodeTable.wf_foldl openNode (fun _ _ ht => wf_openNode ht _) ns _ h

/-! ## The END release (R51) -/

/-- `endReleased` for the channels of a list alone. -/
def endReleasedOver (cs : List Chan) (now : Time) (r t : RelayMap) : Prop :=
  let parked (c : Chan) (n : Node) : Prop := ∃ l, r.nodes.state n = .parked c l
  ∃ (granted waiting : List Chan) (xs : List ReleaseEntry),
    (granted ++ waiting).Pairwise (· < ·) ∧
    (∀ c, c ∈ granted ++ waiting ↔ c ∈ cs ∧ (∃ n, parked c n) ∧ ∀ w ∈ r.waitList, w.ch ≠ c) ∧
    granted.length = min (granted ++ waiting).length (8 - r.queue.length) ∧
    appended now r t .endRun granted parked xs ∧
    t.waitList = r.waitList ++ waiting.map (fun c => { ch := c, cause := .endRun }) ∧
    t.batches = r.batches ∧ t.tOp = r.tOp ∧ t.tRel = r.tRel ∧
    ∀ n, (t.nodes.get n).closeCount = (r.nodes.get n).closeCount ∧
      t.nodes.state n =
        match r.nodes.state n with
        | .parked c l => if c ∈ granted then .opening c else .parked c l
        | x => x

theorem endReleased_of_over {now : Time} {r t : RelayMap} (h : endReleasedOver allChans now r t) :
    endReleased now r t := by
  obtain ⟨granted, waiting, xs, hpw, hmem, hrest⟩ := h
  exact ⟨granted, waiting, xs, hpw, fun c => by rw [hmem]; simp [mem_allChans], hrest⟩

/-- The new map after an END entry for channel c: its parked nodes OPENING, one entry more. -/
theorem State.appendEntry_endRun {s : State} (h : s.relays.nodes.wf = true) (c : Chan) (n : Node) :
    let t := s.appendEntry c .endRun ((s.relays.nodes.parkedOn c).map Prod.fst)
    (t.relays.nodes.get n).closeCount = (s.relays.nodes.get n).closeCount ∧
      t.relays.nodes.state n =
        match s.relays.nodes.state n with
        | .parked d l => if d = c then .opening d else .parked d l
        | x => x := by
  have hget : (s.appendEntry c .endRun ((s.relays.nodes.parkedOn c).map Prod.fst)).relays.nodes.get n =
      if n ∈ (s.relays.nodes.parkedOn c).map Prod.fst then openedEntry (s.relays.nodes.get n)
      else s.relays.nodes.get n := get_foldl_openNode _ h n
  have hmem := NodeTable.mem_map_parkedOn h c n
  unfold NodeTable.state at hmem ⊢
  simp only [hget]
  cases hx : (s.relays.nodes.get n).state with
  | parked d l =>
    by_cases hd : d = c
    · have hin : n ∈ (s.relays.nodes.parkedOn c).map Prod.fst := hmem.2 ⟨l, by rw [hx, hd]⟩
      simp [hin, openedEntry, NodeState.relay?, hx, hd]
    · have hout : n ∉ (s.relays.nodes.parkedOn c).map Prod.fst := fun hc => by
        obtain ⟨l', hl⟩ := hmem.1 hc
        rw [hx] at hl
        cases hl
        exact hd rfl
      simp [hout, hx, hd]
  | free _ | closing _ _ | held _ _ | opening _ =>
    have hout : n ∉ (s.relays.nodes.parkedOn c).map Prod.fst := fun hc => by
      obtain ⟨l', hl⟩ := hmem.1 hc
      rw [hx] at hl
      cases hl
    simp [hout, hx]

/-- A second entry appended in one event expires with the first. -/
theorem State.expiryAfter_appendEntry (s : State) (c : Chan) (cause : ReleaseCause) (ns : List Node) :
    expiryAfter s.time (s.appendEntry c cause ns).relays = expiryAfter s.time s.relays := by
  have hlast : expiryAfter s.time (s.appendEntry c cause ns).relays =
      laterTime (s.time + BitVec.ofNat 32 s.relays.tRel) (expiryAfter s.time s.relays) := by
    simp [expiryAfter, State.appendEntry, State.appendExpiry_eq]
  rw [hlast]
  unfold expiryAfter
  cases s.relays.queue.getLast? with
  | none => exact ite_self _
  | some e => exact laterTime_laterTime _ _

theorem State.slotFree_iff (s : State) : s.slotFree = true ↔ s.relays.queue.length < 8 := by
  unfold State.slotFree
  exact decide_eq_true_iff

/-- A channel that the END release covers: it has parked nodes and no item waiting (R51). -/
def RelayMap.endDue (r : RelayMap) (c : Chan) : Prop :=
  (∃ n l, r.nodes.state n = .parked c l) ∧ ∀ w ∈ r.waitList, w.ch ≠ c

theorem endReleasedOver_cons_skip {c : Chan} {cs : List Chan} {now : Time} {r t : RelayMap} (hc : ¬ r.endDue c)
    (h : endReleasedOver cs now r t) : endReleasedOver (c :: cs) now r t := by
  obtain ⟨gs, ws, xs, hpw, hmem, hrest⟩ := h
  refine ⟨gs, ws, xs, hpw, fun d => ?_, hrest⟩
  rw [hmem, List.mem_cons]
  constructor
  · rintro ⟨hd, he⟩
    exact ⟨Or.inr hd, he⟩
  · rintro ⟨rfl | hd, he⟩
    · exact absurd he hc
    · exact ⟨hd, he⟩

theorem endReleasedOver_cons_wait {c : Chan} {cs : List Chan} {now : Time} {r t : RelayMap} (hlt : ∀ d ∈ cs, c < d)
    (hc : r.endDue c) (hfull : 8 ≤ r.queue.length)
    (h : endReleasedOver cs now { r with waitList := r.waitList ++ [{ ch := c, cause := .endRun }] } t) :
    endReleasedOver (c :: cs) now r t := by
  obtain ⟨gs, ws, xs, hpw, hmem, hlen, happ, hwl, hb, hop, hrel, hn⟩ := h
  have hgs : gs = [] := List.length_eq_zero_iff.1 (by rw [hlen]; simp only; omega)
  subst hgs
  have hin : ∀ d ∈ ws, d ∈ cs := fun d hd => ((hmem d).1 hd).1
  refine ⟨[], c :: ws, xs, ?_, fun d => ?_, by simp; omega, happ, ?_, hb, hop, hrel, hn⟩
  · exact List.pairwise_cons.2 ⟨fun d hd => hlt d (hin d hd), hpw⟩
  · rw [List.nil_append, List.mem_cons, List.mem_cons, ← List.nil_append ws, hmem]
    constructor
    · rintro (rfl | ⟨hd, hp, hw⟩)
      · exact ⟨Or.inl rfl, hc⟩
      · exact ⟨Or.inr hd, hp, fun w hw' => hw w (List.mem_append_left _ hw')⟩
    · rintro ⟨rfl | hd, hp, hw⟩
      · exact Or.inl rfl
      · refine Or.inr ⟨hd, hp, fun w hw' => ?_⟩
        rcases List.mem_append.1 hw' with hw' | hw'
        · exact hw w hw'
        · rw [List.mem_singleton.1 hw']
          exact (hlt d hd).ne
  · rw [hwl]; simp

theorem endReleasedOver_cons_grant {c : Chan} {cs : List Chan} {s : State} {t : RelayMap} (hlt : ∀ d ∈ cs, c < d)
    (hwf : s.relays.nodes.wf = true) (hc : s.relays.endDue c) (hfree : s.relays.queue.length < 8)
    (h : endReleasedOver cs s.time (s.appendEntry c .endRun ((s.relays.nodes.parkedOn c).map Prod.fst)).relays t) :
    endReleasedOver (c :: cs) s.time s.relays t := by
  have hnode := fun n => State.appendEntry_endRun hwf c n
  have hexp := s.expiryAfter_appendEntry c .endRun ((s.relays.nodes.parkedOn c).map Prod.fst)
  set r1 := (s.appendEntry c .endRun ((s.relays.nodes.parkedOn c).map Prod.fst)).relays with hr1
  obtain ⟨gs, ws, xs, hpw, hmem, hlen, ⟨hq, hown, hxs, hdrive⟩, hwl, hb, hop, hrel, hn⟩ := h
  have hq1 : r1.queue = s.relays.queue ++
      [⟨some c, .endRun, (s.relays.nodes.parkedOn c).map Prod.fst, expiryAfter s.time s.relays⟩] := by
    rw [← State.appendExpiry_eq]; rfl
  have hd1 : r1.drive = s.relays.drive ++ opensOf s.relays.nodes ((s.relays.nodes.parkedOn c).map Prod.fst) := by
    rw [← openCommands_eq_opensOf]; rfl
  have hw1 : r1.waitList = s.relays.waitList := rfl
  have hpark : ∀ d, d ≠ c → ∀ n l, r1.nodes.state n = .parked d l ↔ s.relays.nodes.state n = .parked d l := by
    intro d hd n l
    rw [(hnode n).2]
    cases s.relays.nodes.state n with
    | parked e k =>
      by_cases he : e = c
      · subst he
        simp [Ne.symm hd]
      · simp only [if_neg he]
    | free _ | closing _ _ | held _ _ | opening _ => exact Iff.rfl
  have hin : ∀ d ∈ gs ++ ws, d ∈ cs := fun d hd => ((hmem d).1 hd).1
  have hne : ∀ d ∈ gs ++ ws, d ≠ c := fun d hd => (hlt d (hin d hd)).ne'
  refine ⟨c :: gs, ws,
    ⟨some c, .endRun, (s.relays.nodes.parkedOn c).map Prod.fst, expiryAfter s.time s.relays⟩ :: xs,
      ?_, fun d => ?_, ?_, ⟨?_, ?_, ?_, ?_⟩, by rw [hwl, hw1], hb, hop, hrel, fun n => ?_⟩
  · exact List.pairwise_cons.2 ⟨fun d hd => hlt d (hin d hd), hpw⟩
  · rw [List.cons_append, List.mem_cons, List.mem_cons, hmem, hw1]
    constructor
    · rintro (rfl | ⟨hd, ⟨n, l, hp⟩, hw⟩)
      · exact ⟨Or.inl rfl, hc⟩
      · exact ⟨Or.inr hd, ⟨n, l, (hpark d (hlt d hd).ne' n l).1 hp⟩, hw⟩
    · rintro ⟨rfl | hd, ⟨n, l, hp⟩, hw⟩
      · exact Or.inl rfl
      · exact Or.inr ⟨hd, ⟨n, l, (hpark d (hlt d hd).ne' n l).2 hp⟩, hw⟩
  · rw [hq1] at hlen
    simp only [List.length_append, List.length_cons, List.length_nil, List.cons_append] at hlen ⊢
    omega
  · rw [hq, hq1, List.append_assoc]; rfl
  · rw [List.map_cons, List.map_cons, hown]
  · refine List.forall_mem_cons.2 ⟨⟨rfl, rfl, NodeTable.pairwise_parkedOn hwf c, fun d hd n => ?_⟩, fun x hx => ?_⟩
    · cases hd
      exact NodeTable.mem_map_parkedOn hwf c n
    · obtain ⟨hcause, hexp', hpw', hcov⟩ := hxs x hx
      refine ⟨hcause, by rw [hexp', hexp], hpw', fun d hd n => ?_⟩
      have hdg : d ∈ gs := by
        have : some d ∈ gs.map some := by rw [← hown, ← hd]; exact List.mem_map_of_mem hx
        simpa using this
      rw [hcov d hd n]
      exact exists_congr fun l => hpark d (hne d (List.mem_append_left _ hdg)) n l
  · rw [hdrive, hd1, List.flatMap_cons, List.append_assoc]
    refine congrArg (fun z => s.relays.drive ++ (opensOf s.relays.nodes _ ++ z)) ?_
    refine List.flatMap_congr fun x hx => opensOf_congr fun n hn' => ?_
    obtain ⟨d, hdg, hd⟩ : ∃ d ∈ gs, x.owner = some d := by
      have : x.owner ∈ gs.map some := by rw [← hown]; exact List.mem_map_of_mem hx
      obtain ⟨d, hd, he⟩ := List.mem_map.1 this
      exact ⟨d, hd, he.symm⟩
    obtain ⟨l, hl⟩ := ((hxs x hx).2.2.2 d hd n).1 hn'
    rw [hl, (hpark d (hne d (List.mem_append_left _ hdg)) n l).1 hl]
  · obtain ⟨hcc, hst⟩ := hn n
    refine ⟨hcc.trans (hnode n).1, ?_⟩
    rw [hst, (hnode n).2]
    cases s.relays.nodes.state n with
    | parked d l => by_cases hd : d = c <;> simp [hd]
    | free _ | closing _ _ | held _ _ | opening _ => rfl

/-- The relays of the END release of a list of channels in ascending number. -/
theorem endReleasedOver_foldl (cs : List Chan) (hcs : cs.Pairwise (· < ·)) (s : State)
    (h : s.relays.nodes.wf = true) : endReleasedOver cs s.time s.relays (cs.foldl State.endRelease s).relays := by
  induction cs generalizing s with
  | nil =>
    refine ⟨[], [], [], List.Pairwise.nil, by simp, by simp, ⟨by simp, rfl, by simp, by simp⟩, by simp, rfl, rfl, rfl,
      fun n => ⟨rfl, ?_⟩⟩
    simp only [List.foldl_nil, List.not_mem_nil, if_false]
    cases s.relays.nodes.state n <;> rfl
  | cons c cs ih =>
    rw [List.pairwise_cons] at hcs
    have hpark := NodeTable.parkedOn_eq_nil h c
    rw [List.foldl_cons]
    unfold State.endRelease
    split
    next hp => exact endReleasedOver_cons_skip (fun hc => hpark.1 hp hc.1) (ih hcs.2 s h)
    next hp =>
      split
      next hw =>
        obtain ⟨w, hw, hch⟩ := List.any_eq_true.1 hw
        exact endReleasedOver_cons_skip (fun hc => hc.2 w hw (by simpa using hch)) (ih hcs.2 s h)
      next hw =>
        have hc : s.relays.endDue c := ⟨by rw [hpark, not_not] at hp; exact hp, by simpa using hw⟩
        split
        next hf =>
          exact endReleasedOver_cons_grant hcs.1 h hc (s.slotFree_iff.1 hf)
            (ih hcs.2 _ (State.wf_appendEntry h _ _ _))
        next hf =>
          exact endReleasedOver_cons_wait hcs.1 hc (Nat.le_of_not_lt fun hq => hf (s.slotFree_iff.2 hq))
            (ih hcs.2 (s.joinWaitList c .endRun) h)

/-- The END release of a completed run (R51). -/
theorem endReleased_endReleaseAll {s : State} (h : s.relays.nodes.wf = true) :
    endReleased s.time s.relays s.endReleaseAll.relays :=
  endReleased_of_over (endReleasedOver_foldl allChans (by decide) s h)

/-! ## The emergency open (R52) -/

theorem emergencyEntry_reset (n : Node) : emergencyEntry n .reset = .reset := rfl

theorem emergencyEntry_state (n : Node) (e : NodeEntry) :
    (emergencyEntry n e).state =
      match e.state with
      | .free _ => .free none
      | .closing c _ => .opening c
      | .held c _ => .opening c
      | .parked c _ => .opening c
      | .opening c => .opening c := by
  obtain ⟨x, k⟩ := e
  cases x <;> rfl

theorem emergencyEntry_closeCount (n : Node) (e : NodeEntry) : (emergencyEntry n e).closeCount = e.closeCount := by
  obtain ⟨x, k⟩ := e
  cases x <;> rfl

/-- The nodes the EMERGENCY entry covers. -/
def NodeTable.emergencyNodes (t : NodeTable) : List Node :=
  ((t.rewrite emergencyEntry).filter fun p => !(p.2.state.isFree)).map Prod.fst

theorem NodeTable.mem_emergencyNodes {t : NodeTable} (h : t.wf = true) (n : Node) :
    n ∈ t.emergencyNodes ↔ ∃ c, (t.rewrite emergencyEntry).state n = .opening c := by
  have hw := NodeTable.wf_rewrite h emergencyEntry
  have hget := NodeTable.get_rewrite h emergencyEntry emergencyEntry_reset n
  have hst : ((t.rewrite emergencyEntry).state n).isFree = false ↔
      ∃ c, (t.rewrite emergencyEntry).state n = .opening c := by
    unfold NodeTable.state
    rw [hget, emergencyEntry_state]
    cases (t.get n).state <;> simp [NodeState.isFree]
  rw [← hst]
  unfold NodeTable.emergencyNodes
  rw [List.mem_map]
  constructor
  · rintro ⟨⟨m, e⟩, hm, rfl⟩
    obtain ⟨hm, hf⟩ := List.mem_filter.1 hm
    simpa [NodeTable.state, NodeTable.get_of_mem hw hm] using hf
  · intro hf
    refine ⟨(n, (t.rewrite emergencyEntry).get n), List.mem_filter.2 ⟨NodeTable.mem_of_get fun hr => ?_, ?_⟩, rfl⟩
    · rw [NodeTable.state, hr] at hf
      cases hf
    · simpa [NodeTable.state] using hf

/-- The open commands of an emergency open are those of the nodes it covers. -/
theorem NodeTable.emergencyOpens {t : NodeTable} (h : t.wf = true) :
    (t.filterMap fun p => p.2.state.relay?.map fun q => RelayCommand.open p.1 q.1 q.2) =
      opensOf t t.emergencyNodes := by
  unfold opensOf NodeTable.emergencyNodes NodeTable.rewrite
  rw [List.filterMap_map, List.filterMap_filter, List.filterMap_filterMap]
  refine List.filterMap_congr fun p hp => ?_
  have hst : t.state p.1 = p.2.state := by
    unfold NodeTable.state; rw [NodeTable.get_of_mem h hp]
  obtain ⟨n, x, k⟩ := p
  cases x with
  | free _ => by_cases hk : k = 0 <;> simp [emergencyEntry, NodeState.relay?, NodeState.isFree, NodeEntry.reset, hk]
  | closing _ _ | held _ _ | parked _ _ | opening _ =>
    simp [emergencyEntry, NodeState.relay?, NodeState.isFree, NodeEntry.reset, hst]

/-- The emergency open is what `emergencyOpened` says. -/
theorem emergencyOpened_emergencyOpen {s : State} (h : s.relays.nodes.wf = true) :
    emergencyOpened s.time s.relays s.emergencyOpen.relays := by
  refine ⟨fun n => ?_, rfl, fun c => by simp [State.emergencyOpen], _, rfl, rfl, rfl, ?_,
    NodeTable.mem_emergencyNodes h, ?_, ?_⟩
  · have hget := NodeTable.get_rewrite h emergencyEntry emergencyEntry_reset n
    exact ⟨(congrArg NodeEntry.closeCount hget).trans (emergencyEntry_closeCount n _),
      (congrArg NodeEntry.state hget).trans (emergencyEntry_state n _)⟩
  · exact (NodeTable.pairwise_of_wf (NodeTable.wf_rewrite h emergencyEntry)).sublist (List.filter_sublist.map _)
  · simp only [List.foldl_map, later_eq_laterTime]
    rfl
  · exact congrArg (s.relays.drive ++ ·) (NodeTable.emergencyOpens h)

end Sys2Proof.Machine
end

section
/-! SUPPORT. The halt (R152, R153): the abort posts channel by channel (R97), and the whole halt as `haltTaken` says. -/

namespace Sys2Proof.Machine

/-! ## Occurrences -/

theorem State.offer_eq (s : State) (o : Occurrence) :
    s.offer o = s.countAll (Counter.onOccurrence s.counters.frozen o) := rfl

theorem Counter.onOccurrence_hit {k : Counter} {o : Occurrence} {frozen : Bool} (hm : k.matchesOcc o = true)
    (hf : frozen = false) : Counter.onOccurrence frozen o k = k.add (k.amount o.value) := by
  unfold Counter.onOccurrence; rw [if_pos (by simp [hm, hf])]

theorem Counter.onOccurrence_miss {k : Counter} {o : Occurrence} {frozen : Bool}
    (h : ¬ (k.matchesOcc o = true ∧ frozen = false)) : Counter.onOccurrence frozen o k = (k, false) := by
  unfold Counter.onOccurrence; rw [if_neg (by simpa using h)]

@[simp] theorem Counter.onOccurrence_action (k : Counter) (o : Occurrence) (frozen : Bool) :
    (Counter.onOccurrence frozen o k).1.action = k.action := by
  unfold Counter.onOccurrence; split <;> rfl

/-- With the counters frozen an occurrence changes nothing (R141). -/
theorem State.offer_frozen {s : State} (h : s.counters.frozen = true) (o : Occurrence) : s.offer o = s := by
  have hmiss : ∀ k : Counter, Counter.onOccurrence s.counters.frozen o k = (k, false) := fun k =>
    Counter.onOccurrence_miss (by simp [h])
  have hnil : s.wrapping (Counter.onOccurrence s.counters.frozen o) = [] :=
    (s.wrapping_eq_nil _).2 fun i => by rw [hmiss]
  rw [State.offer_eq, State.countAll_eq, hnil]
  simp only [State.rewritten, hmiss, List.foldl_nil]
  rfl

/-- What an occurrence does to the counters depends on the counters alone. -/
theorem State.offer_counters_congr {s t : State} (h : s.counters = t.counters) (o : Occurrence) :
    (s.offer o).counters = (t.offer o).counters := by
  simp only [State.offer_eq, State.countAll_eq, foldl_wrapEffects_counters, State.wrapping, State.rewritten, h,
    State.withCounters_counters]

theorem State.counted_congr {s t : State} (h : s.counters = t.counters) (os : List Occurrence) :
    s.counted os = t.counted os := by
  unfold State.counted
  induction os generalizing s t with
  | nil => exact h
  | cons o os ih => exact ih (State.offer_counters_congr h o)

theorem State.counted_append (s : State) (os ps : List Occurrence) :
    s.counted (os ++ ps) = (os.foldl State.offer s).counted ps := by
  simp [State.counted]

/-! ## A halted run's window is empty: what the posts leave unchanged -/

theorem State.retire_of_window_nil {s : State} (h : s.disp.window = []) (j : Fin 8) (why : RetireReason) :
    (s.retire j why).plan = s.plan ∧ (s.retire j why).disp = s.disp := by
  by_cases hj : s.siteState j = .active
  · rw [State.retire_of_eq hj (by simp [State.entriesOf, h])]
    exact ⟨rfl, rfl⟩
  · rw [State.retire_of_not_active hj]
    exact ⟨rfl, rfl⟩

/-- With an empty window counting changes neither the plan nor the dispatcher. -/
theorem State.countAll_of_window_nil {s : State} (h : s.disp.window = []) (f : Counter → Counter × Bool) :
    (s.countAll f).plan = s.plan ∧ (s.countAll f).disp = s.disp := by
  let R (s t : State) : Prop := s.disp.window = [] → t.plan = s.plan ∧ t.disp = s.disp
  have refl : ∀ s, R s s := fun s _ => ⟨rfl, rfl⟩
  have trans : ∀ {s t u}, R s t → R t u → R s u := fun {s t u} hst htu hs => by
    obtain ⟨hp, hd⟩ := hst hs
    obtain ⟨hp', hd'⟩ := htu (by rw [hd]; exact hs)
    exact ⟨hp'.trans hp, hd'.trans hd⟩
  have hstep := State.wrapEffects_rel (R := R) refl trans (fun s _ => ⟨rfl, rfl⟩) (fun s _ => ⟨rfl, rfl⟩)
    (fun s _ => ⟨rfl, rfl⟩) fun s j hs => State.retire_of_window_nil hs j _
  rw [State.countAll_eq]
  exact foldl_rel refl trans _ _ (fun t k _ => hstep t k) (s.rewritten f) h

/-- Where no wrap retires a site, an occurrence leaves the sites, and no later wrap retires one either. -/
theorem State.offer_of_noRetireWrap {s : State} (h : s.noRetireWrap) (o : Occurrence) :
    (s.offer o).sites = s.sites ∧ (s.offer o).noRetireWrap := by
  rcases h with hf | hact
  · rw [State.offer_frozen hf]
    exact ⟨rfl, Or.inl hf⟩
  · refine ⟨?_, Or.inr fun i => by rw [State.offer_eq, State.countAll_get]; simpa using hact i⟩
    have hks : ∀ k ∈ s.wrapping (Counter.onOccurrence s.counters.frozen o), k.action ≠ .retire := by
      intro k hk
      obtain ⟨i, rfl, -⟩ := (s.mem_wrapping _ k).1 hk
      exact hact i
    rw [State.offer_eq, State.countAll_eq]
    refine foldl_rel (R := fun s t => t.sites = s.sites) (fun _ => rfl) (by intro s t u h g; exact Eq.trans g h) _ _
      (fun t k hk => ?_) (s.rewritten _)
    cases ha : k.action
    · rw [State.wrapEffects_none ha]; rfl
    · rw [State.wrapEffects_freeze ha]; rfl
    · exact absurd ha (hks k hk)
    · rw [State.wrapEffects_halt ha]; rfl

/-! ## The abort of one channel (R97) -/

/-- The record the abort of a channel posts. -/
def State.haltPost (s : State) (c : Chan) : Option ResultRecord :=
  (s.chan c).running.bind fun k => haltRecord c (s.chan c) k s.time

/-- A channel after its abort. -/
def Channel.aborted (x : Channel) : Channel :=
  if x.running = none then x else { x with running := none, stim := { x.stim with on := false } }

/-- The abort of channel c retires site j (R94). -/
def State.abortRetires (s : State) (c : Chan) (j : Fin 8) : Prop :=
  ∃ k r, (s.chan c).running = some k ∧ haltRecord c (s.chan c) k s.time = some r ∧ k.inst.step.kind = .contact ∧
    k.inst.site = .board j ∧ r.outcome ≠ .pass

theorem State.abortChannel_idle {s : State} {c : Chan} (h : (s.chan c).running = none) : s.abortChannel c = s := by
  unfold State.abortChannel; rw [h]

theorem State.abortChannel_silent {s : State} {c : Chan} {k : Running} (h : (s.chan c).running = some k)
    (hr : haltRecord c (s.chan c) k s.time = none) : s.abortChannel c = (s.stimulusOff c).withRunning c none := by
  unfold State.abortChannel; simp only [h, hr]

theorem State.abortChannel_post {s : State} {c : Chan} {k : Running} {r : ResultRecord}
    (h : (s.chan c).running = some k) (hr : haltRecord c (s.chan c) k s.time = some r) :
    s.abortChannel c = ((s.stimulusOff c).abortPost k.inst r).withRunning c none := by
  unfold State.abortChannel; simp only [h, hr]

/-- The three cases of a channel's abort: IDLE, with no record to post, with one. -/
theorem State.abortChannel_cases (s : State) (c : Chan) :
    ((s.chan c).running = none ∧ s.haltPost c = none ∧ s.abortChannel c = s) ∨
    (∃ k, (s.chan c).running = some k ∧ s.haltPost c = none ∧
      haltRecord c (s.chan c) k s.time = none ∧ s.abortChannel c = (s.stimulusOff c).withRunning c none) ∨
    ∃ k r, (s.chan c).running = some k ∧ s.haltPost c = some r ∧ haltRecord c (s.chan c) k s.time = some r ∧
      s.abortChannel c = ((s.stimulusOff c).abortPost k.inst r).withRunning c none := by
  unfold State.haltPost
  cases h : (s.chan c).running with
  | none => exact Or.inl ⟨rfl, rfl, State.abortChannel_idle h⟩
  | some k =>
    cases hr : haltRecord c (s.chan c) k s.time with
    | none => exact Or.inr (Or.inl ⟨k, rfl, by simp [hr], hr, State.abortChannel_silent h hr⟩)
    | some r => exact Or.inr (Or.inr ⟨k, r, rfl, by simp [hr], hr, State.abortChannel_post h hr⟩)

theorem State.stimulusOff_chan (s : State) (c d : Chan) :
    (s.stimulusOff c).chan d =
      if d = c then { s.chan c with stim := { (s.chan c).stim with on := false } } else s.chan d := by
  simp [State.stimulusOff]

theorem State.chan_of_chans_eq {s t : State} (h : t.chans = s.chans) (c : Chan) : t.chan c = s.chan c := by
  unfold State.chan; rw [h]

/-- A running channel with its context dropped after its stimulus has gone off. -/
theorem State.withRunning_none_chan {s t : State} {c : Chan} (h : t.chans = (s.stimulusOff c).chans)
    (hr : (s.chan c).running ≠ none) (d : Chan) :
    (t.withRunning c none).chan d = if d = c then (s.chan c).aborted else s.chan d := by
  have hc := State.chan_of_chans_eq h
  unfold State.withRunning
  rw [State.withChan_chan, hc, hc, State.stimulusOff_chan, State.stimulusOff_chan]
  by_cases hd : d = c <;> simp [hd, Channel.aborted, hr]

/-- A channel's abort leaves it IDLE with its stimulus off, and every other channel as it was. -/
theorem State.abortChannel_chan (s : State) (c d : Chan) :
    (s.abortChannel c).chan d = if d = c then (s.chan c).aborted else s.chan d := by
  rcases s.abortChannel_cases c with ⟨h, -, ha⟩ | ⟨k, h, -, -, ha⟩ | ⟨k, r, h, -, -, ha⟩ <;> rw [ha]
  · by_cases hd : d = c <;> simp [hd, Channel.aborted, h]
  · exact State.withRunning_none_chan rfl (by simp [h]) d
  · exact State.withRunning_none_chan (by simp) (by simp [h]) d

theorem State.appendRecord_results (s : State) (r : ResultRecord) :
    (s.appendRecord r).results = { s.results with records := s.results.records ++ [r] } := by
  simp [State.appendRecord]

theorem State.abortPost_results (s : State) (i : Instance) (r : ResultRecord) :
    (s.abortPost i r).results = { s.results with records := s.results.records ++ [r] } := by
  simp [State.abortPost, State.appendRecord_results]

theorem State.abortChannel_results (s : State) (c : Chan) :
    (s.abortChannel c).results = { s.results with records := s.results.records ++ (s.haltPost c).toList } := by
  rcases s.abortChannel_cases c with ⟨-, hp, ha⟩ | ⟨k, -, hp, -, ha⟩ | ⟨k, r, -, hp, -, ha⟩ <;> rw [ha, hp]
  · simp
  · simp
  · simp [State.abortPost_results]

theorem ofRecord_eq_resultEvent (r : ResultRecord) : Occurrence.ofRecord r = resultEvent r := rfl

theorem State.abortChannel_counters (s : State) (c : Chan) :
    (s.abortChannel c).counters = s.counted ((s.haltPost c).toList.map resultEvent) := by
  rcases s.abortChannel_cases c with ⟨-, hp, ha⟩ | ⟨k, -, hp, -, ha⟩ | ⟨k, r, -, hp, -, ha⟩ <;> rw [ha, hp]
  · rfl
  · simp [State.counted]
  · simp only [State.withRunning_counters, State.abortPost, State.contactRetire_counters, ofRecord_eq_resultEvent]
    exact State.offer_counters_congr (by simp) _

theorem State.contactRetire_cases (s : State) (i : Instance) (v : Verdict) :
    (∃ j, i.site = .board j ∧ i.step.kind = .contact ∧ v ≠ .pass ∧ s.contactRetire i v = s.retire j .contact) ∨
      ((∀ j, ¬ (i.site = .board j ∧ i.step.kind = .contact ∧ v ≠ .pass)) ∧ s.contactRetire i v = s) := by
  unfold State.contactRetire
  cases hs : i.site with
  | panel => exact Or.inr ⟨fun j h => (by cases h.1), rfl⟩
  | board j =>
    by_cases h : i.step.kind = .contact ∧ v ≠ .pass
    · exact Or.inl ⟨j, rfl, h.1, h.2, by simp [h]⟩
    · refine Or.inr ⟨fun d hd => h hd.2, ?_⟩
      simp only
      rw [if_neg (by simpa using h)]

theorem State.pendingKept_contactRetire (s : State) (i : Instance) (v : Verdict) :
    s.pendingKept (s.contactRetire i v) := by
  rcases s.contactRetire_cases i v with ⟨j, -, -, -, h⟩ | ⟨-, h⟩ <;> rw [h]
  · exact s.pendingKept_retire j _
  · exact s.pendingKept_refl

theorem State.pendingKept_appendRecord (s : State) (r : ResultRecord) : s.pendingKept (s.appendRecord r) := by
  unfold State.appendRecord State.testResultsReady
  split
  · exact State.pendingKept_raise (s.withResults _) _
  · exact s.pendingKept_refl

theorem State.pendingKept_abortPost (s : State) (i : Instance) (r : ResultRecord) :
    s.pendingKept (s.abortPost i r) :=
  ((s.pendingKept_appendRecord r).trans (State.pendingKept_countAll _ _)).trans
    (State.pendingKept_contactRetire _ i r.outcome)

theorem State.pendingKept_abortChannel (s : State) (c : Chan) : s.pendingKept (s.abortChannel c) := by
  rcases s.abortChannel_cases c with ⟨-, -, ha⟩ | ⟨k, -, -, -, ha⟩ | ⟨k, r, -, -, -, ha⟩ <;> rw [ha]
  · exact s.pendingKept_refl
  · exact s.pendingKept_refl
  · exact State.pendingKept_abortPost (s.stimulusOff c) k.inst r

/-- The state in which an abort's record has been posted and counted, before the CONTACT retirement. -/
def State.abortCounted (s : State) (c : Chan) (r : ResultRecord) : State :=
  ((s.stimulusOff c).appendRecord r).offer (.ofRecord r)

theorem State.abortPost_eq (s : State) (c : Chan) (i : Instance) (r : ResultRecord) :
    (s.stimulusOff c).abortPost i r = (s.abortCounted c r).contactRetire i r.outcome := rfl

theorem State.abortCounted_of_window_nil {s : State} (h : s.disp.window = []) (c : Chan) (r : ResultRecord) :
    (s.abortCounted c r).plan = s.plan ∧ (s.abortCounted c r).disp = s.disp := by
  obtain ⟨hp, hd⟩ := State.countAll_of_window_nil (s := (s.stimulusOff c).appendRecord r) (by simpa using h)
    (Counter.onOccurrence ((s.stimulusOff c).appendRecord r).counters.frozen (Occurrence.ofRecord r))
  exact ⟨hp.trans (by simp), hd.trans (by simp)⟩

/-- With an empty window an abort changes neither the plan nor the dispatcher. -/
theorem State.abortChannel_of_window_nil {s : State} (h : s.disp.window = []) (c : Chan) :
    (s.abortChannel c).plan = s.plan ∧ (s.abortChannel c).disp = s.disp := by
  rcases s.abortChannel_cases c with ⟨-, -, ha⟩ | ⟨k, -, -, -, ha⟩ | ⟨k, r, -, -, -, ha⟩ <;> rw [ha]
  · exact ⟨rfl, rfl⟩
  · exact ⟨rfl, rfl⟩
  · obtain ⟨hp, hd⟩ := State.abortCounted_of_window_nil h c r
    rw [State.withRunning_plan, State.withRunning_disp, State.abortPost_eq]
    rcases (s.abortCounted c r).contactRetire_cases k.inst r.outcome with ⟨j, -, -, -, hc⟩ | ⟨-, hc⟩ <;> rw [hc]
    · obtain ⟨hp', hd'⟩ := State.retire_of_window_nil (hd ▸ h : (s.abortCounted c r).disp.window = []) j .contact
      exact ⟨hp'.trans hp, hd'.trans hd⟩
    · exact ⟨hp, hd⟩

theorem State.noRetireWrap_of_counters {s t : State} (h : t.counters = s.counters) (hs : s.noRetireWrap) :
    t.noRetireWrap := by
  unfold State.noRetireWrap; rw [h]; exact hs

theorem State.abortCounted_of_noRetireWrap {s : State} (hn : s.noRetireWrap) (c : Chan) (r : ResultRecord) :
    (s.abortCounted c r).sites = s.sites ∧ (s.abortCounted c r).noRetireWrap := by
  obtain ⟨hs, hn'⟩ := State.offer_of_noRetireWrap (s := (s.stimulusOff c).appendRecord r)
    (State.noRetireWrap_of_counters (by simp) hn) (Occurrence.ofRecord r)
  exact ⟨hs.trans (by simp), hn'⟩

/-- An entry retired where nothing of the site waits. -/
theorem State.retire_get_of_window_nil {s : State} (h : s.disp.window = []) (i j : Fin 8) (why : RetireReason)
    (hi : s.siteState i = .active) :
    (s.retire i why).sites.entries.get j =
      if j = i then { s.sites.entries.get i with state := .retired why } else s.sites.entries.get j := by
  rw [State.retire_get hi]
  simp [State.entriesOf, h]

/-- Where no wrap retires a site, and with an empty window, an abort retires the site of a CONTACT record with an outcome
other than PASS, and leaves every other site entry (R94). -/
theorem State.abortChannel_sites {s : State} (hw : s.disp.window = []) (hn : s.noRetireWrap) (c : Chan) :
    (s.abortChannel c).noRetireWrap ∧ ∀ j,
    (s.siteState j = .active ∧ s.abortRetires c j →
      (s.abortChannel c).sites.entries.get j = { s.sites.entries.get j with state := .retired .contact } ∧
        Notice.siteRetired.isIn (s.abortChannel c).link.pendingSet = true) ∧
    (¬ (s.siteState j = .active ∧ s.abortRetires c j) →
      (s.abortChannel c).sites.entries.get j = s.sites.entries.get j) := by
  unfold State.abortRetires
  rcases s.abortChannel_cases c with ⟨hk, -, ha⟩ | ⟨k, hk, -, hr, ha⟩ | ⟨k, r, hk, -, hr, ha⟩ <;> rw [ha]
  · exact ⟨hn, fun j => ⟨fun h => by simp [hk] at h, fun _ => rfl⟩⟩
  · exact ⟨State.noRetireWrap_of_counters (by simp) hn, fun j => ⟨fun h => by simp [hk, hr] at h, fun _ => rfl⟩⟩
  · obtain ⟨hs, hn'⟩ := State.abortCounted_of_noRetireWrap hn c r
    obtain ⟨-, hd⟩ := State.abortCounted_of_window_nil hw c r
    have hwin : (s.abortCounted c r).disp.window = [] := hd ▸ hw
    have hst : ∀ j, (s.abortCounted c r).siteState j = s.siteState j := fun j => by
      unfold State.siteState; rw [hs]
    simp only [State.withRunning_sites, State.withRunning_link, State.abortPost_eq, hk, Option.some.injEq, hr,
      exists_eq_left', exists_and_left]
    rcases (s.abortCounted c r).contactRetire_cases k.inst r.outcome with ⟨i, hi, hc, hv, he⟩ | ⟨hno, he⟩ <;> rw [he]
    · refine ⟨State.noRetireWrap_of_counters (by simp) hn', fun j => ?_⟩
      by_cases hact : s.siteState i = .active
      · have hact' := (hst i).trans hact
        rw [State.retire_get_of_window_nil hwin i j _ hact', hs]
        refine ⟨fun h => ?_, fun h => ?_⟩
        · have hij : i = j := by simpa [hi] using h.2.2.1
          exact ⟨by simp [hij], State.retire_siteRetired hact'⟩
        · rw [if_neg]
          rintro rfl
          exact h ⟨hact, hc, hi, hv⟩
      · rw [State.retire_of_not_active (by rw [hst]; exact hact), hs]
        refine ⟨fun h => ?_, fun _ => rfl⟩
        have hij : i = j := by simpa [hi] using h.2.2.1
        exact absurd (hij ▸ h.1) hact
    · exact ⟨State.noRetireWrap_of_counters (by simp) hn', fun j =>
        ⟨fun h => absurd ⟨h.2.2.1, h.2.1, h.2.2.2⟩ (hno j), fun _ => by rw [hs]⟩⟩

end Sys2Proof.Machine
end

section
/-! SUPPORT. The halt whole (R152, R153), and its place at the close of an event (R139). -/

namespace Sys2Proof.Machine

/-! ## The aborts of some channels, one after another -/

/-- The abort of one channel leaves what the abort of another does. -/
theorem State.abortChannel_other (s : State) {c d : Chan} (h : d ≠ c) :
    (s.abortChannel c).haltPost d = s.haltPost d ∧ ∀ j, (s.abortChannel c).abortRetires d j ↔ s.abortRetires d j := by
  unfold State.haltPost State.abortRetires
  rw [State.abortChannel_chan, if_neg h, State.abortChannel_time]
  exact ⟨rfl, fun _ => Iff.rfl⟩

theorem abortChannels_chan (cs : List Chan) (hcs : cs.Nodup) (s : State) (d : Chan) :
    (cs.foldl State.abortChannel s).chan d = if d ∈ cs then (s.chan d).aborted else s.chan d := by
  induction cs generalizing s with
  | nil => simp
  | cons c cs ih =>
    rw [List.nodup_cons] at hcs
    rw [List.foldl_cons, ih hcs.2, State.abortChannel_chan]
    by_cases hd : d = c
    · subst hd; simp [hcs.1]
    · simp [hd]

/-- The records posted and the counters after the aborts of some channels (R97). -/
theorem abortChannels_posts (cs : List Chan) (hcs : cs.Nodup) (s : State) :
    (cs.foldl State.abortChannel s).results =
        { s.results with records := s.results.records ++ cs.filterMap s.haltPost } ∧
      (cs.foldl State.abortChannel s).counters = s.counted ((cs.filterMap s.haltPost).map resultEvent) := by
  induction cs generalizing s with
  | nil => exact ⟨by simp, rfl⟩
  | cons c cs ih =>
    rw [List.nodup_cons] at hcs
    obtain ⟨hres, hcnt⟩ := ih hcs.2 (s.abortChannel c)
    have hrest : cs.filterMap (s.abortChannel c).haltPost = cs.filterMap s.haltPost :=
      List.filterMap_congr fun d hd => (s.abortChannel_other fun he : d = c => hcs.1 (he ▸ hd)).1
    have hall : (c :: cs).filterMap s.haltPost = (s.haltPost c).toList ++ cs.filterMap s.haltPost := by
      cases h : s.haltPost c <;> simp [h]
    rw [List.foldl_cons, hres, hcnt, hrest, hall, State.abortChannel_results, List.map_append, State.counted_append]
    exact ⟨by simp, State.counted_congr (s.abortChannel_counters c) _⟩

theorem pendingKept_abortChannels (cs : List Chan) (s : State) : s.pendingKept (cs.foldl State.abortChannel s) :=
  foldl_rel (R := State.pendingKept) State.pendingKept_refl State.pendingKept.trans _ _
    (fun t c _ => t.pendingKept_abortChannel c) s

theorem abortChannels_of_window_nil (cs : List Chan) {s : State} (h : s.disp.window = []) :
    (cs.foldl State.abortChannel s).plan = s.plan ∧ (cs.foldl State.abortChannel s).disp = s.disp := by
  induction cs generalizing s with
  | nil => exact ⟨rfl, rfl⟩
  | cons c cs ih =>
    obtain ⟨hp, hd⟩ := State.abortChannel_of_window_nil h c
    obtain ⟨hp', hd'⟩ := ih (s := s.abortChannel c) (by rw [hd]; exact h)
    exact ⟨hp'.trans hp, hd'.trans hd⟩

/-- The sites after the aborts of some channels, where no wrap retires a site (R94). -/
theorem abortChannels_sites (cs : List Chan) (hcs : cs.Nodup) {s : State} (hw : s.disp.window = [])
    (hn : s.noRetireWrap) (j : Fin 8) :
    (s.siteState j = .active ∧ (∃ c ∈ cs, s.abortRetires c j) →
      (cs.foldl State.abortChannel s).sites.entries.get j =
          { s.sites.entries.get j with state := .retired .contact } ∧
        Notice.siteRetired.isIn (cs.foldl State.abortChannel s).link.pendingSet = true) ∧
    (¬ (s.siteState j = .active ∧ ∃ c ∈ cs, s.abortRetires c j) →
      (cs.foldl State.abortChannel s).sites.entries.get j = s.sites.entries.get j) := by
  induction cs generalizing s with
  | nil => simp
  | cons c cs ih =>
    rw [List.nodup_cons] at hcs
    obtain ⟨hn', hsites⟩ := State.abortChannel_sites hw hn c
    obtain ⟨hyes, hno⟩ := hsites j
    obtain ⟨-, hd⟩ := State.abortChannel_of_window_nil hw c
    obtain ⟨ihyes, ihno⟩ := ih hcs.2 (s := s.abortChannel c) (by rw [hd]; exact hw) hn'
    have hrest : (∃ d ∈ cs, (s.abortChannel c).abortRetires d j) ↔ ∃ d ∈ cs, s.abortRetires d j :=
      exists_congr fun d => and_congr_right fun hd => (s.abortChannel_other fun he : d = c => hcs.1 (he ▸ hd)).2 j
    rw [List.foldl_cons]
    by_cases h : s.siteState j = .active ∧ s.abortRetires c j
    · obtain ⟨he, hnote⟩ := hyes h
      have hret : (s.abortChannel c).siteState j ≠ .active := by unfold State.siteState; rw [he]; simp
      refine ⟨fun _ => ⟨?_, pendingKept_abortChannels cs _ _ hnote⟩, fun hc => absurd ⟨h.1, c, by simp, h.2⟩ hc⟩
      rw [ihno fun hc => hret hc.1, he]
    · have he := hno h
      have hst : (s.abortChannel c).siteState j = s.siteState j := by unfold State.siteState; rw [he]
      rw [hst, hrest, he] at ihyes ihno
      refine ⟨fun ⟨ha, d, hd, hr⟩ => ?_, fun hc => ihno fun ⟨ha, d, hd, hr⟩ =>
        hc ⟨ha, d, List.mem_cons_of_mem _ hd, hr⟩⟩
      rcases List.mem_cons.1 hd with rfl | hd
      · exact absurd ⟨ha, hr⟩ h
      · exact ihyes ⟨ha, d, hd, hr⟩

/-! ## The halt -/

/-- The state of a halt before the aborts: the run HALTED, the window discarded, the fetch stopped. -/
def State.haltBegun (s : State) (why : HaltReason) : State :=
  (((s.withRun { s.run with state := .halted why }).raise .runHalted).withDisp
    { s.disp with window := [], fetch := s.disp.fetch.halted }).withResults { s.results with waiting := [] }

/-- The state of a halt after the aborts. -/
def State.haltAborted (s : State) (why : HaltReason) : State := allChans.foldl State.abortChannel (s.haltBegun why)

theorem State.halt_of_not_active {s : State} (h : s.run.state ≠ .active) (why : HaltReason) : s.halt why = s := by
  unfold State.halt; rw [if_neg (by rw [State.active_iff]; exact h)]

theorem State.halt_of_active {s : State} (h : s.run.state = .active) (why : HaltReason) :
    s.halt why =
      (((s.haltAborted why).emergencyOpen).withRun { (s.haltAborted why).run with haltAsked := false }).withDisp
        { (s.haltAborted why).disp with examDue := false } := by
  unfold State.halt; rw [if_pos (s.active_iff.2 h)]; rfl

/-- Run Control but for the two fields a halt sets. -/
theorem RunControl.ext_but_haltAsked {x y : RunControl} (h1 : x.state = y.state) (h2 : x.enabled = y.enabled)
    (h3 : x.vac = y.vac) (h4 : x.lid = y.lid) (h5 : x.outputs = y.outputs) (asked : Bool) :
    ({ x with haltAsked := asked } : RunControl) = { y with haltAsked := asked } := by
  simp [h1, h2, h3, h4, h5]

theorem State.halt_run {s : State} (h : s.run.state = .active) (why : HaltReason) :
    (s.halt why).run = { s.run with state := .halted why, haltAsked := false } := by
  rw [State.halt_of_active h]
  have hfold : ∀ {α : Type} (m : State → α), (∀ t c, m (State.abortChannel t c) = m t) →
      m (s.haltAborted why) = m (s.haltBegun why) := fun m hm => foldl_keep _ m hm _ _
  exact RunControl.ext_but_haltAsked (y := { s.run with state := .halted why })
    (hfold (fun t => t.run.state) (by simp)) (hfold (fun t => t.run.enabled) (by simp))
    (hfold (fun t => t.run.vac) (by simp)) (hfold (fun t => t.run.lid) (by simp))
    (hfold (fun t => t.run.outputs) (by simp)) false

/-- The plan and the dispatcher after a halt (R31, R153). -/
theorem State.halt_disp {s : State} (h : s.run.state = .active) (why : HaltReason) :
    (s.halt why).plan = s.plan ∧
      (s.halt why).disp = { s.disp with window := [], fetch := s.disp.fetch.halted, examDue := false } := by
  obtain ⟨hp, hd⟩ := abortChannels_of_window_nil allChans (s := s.haltBegun why) rfl
  rw [State.halt_of_active h]
  exact ⟨hp, congrArg (fun d => { d with examDue := false }) hd⟩

/-- A halt leaves every channel IDLE with its stimulus off (R97). -/
theorem State.halt_chan {s : State} (h : s.run.state = .active) (why : HaltReason) (c : Chan) :
    (s.halt why).chan c = (s.chan c).aborted := by
  rw [State.halt_of_active h]
  refine (abortChannels_chan allChans (by decide) (s.haltBegun why) c).trans ?_
  rw [if_pos (mem_allChans c)]
  rfl

theorem Channel.aborted_running (x : Channel) : x.aborted.running = none := by
  unfold Channel.aborted; split <;> simp_all

/-- After a halt of an ACTIVE run nothing waits and nothing runs. -/
theorem State.halt_quiet {s : State} (h : s.run.state = .active) (why : HaltReason) :
    (s.halt why).run.state = .halted why ∧ (s.halt why).disp.window = [] ∧
      ∀ c, ((s.halt why).chan c).running = none := by
  refine ⟨by rw [State.halt_run h], by rw [(State.halt_disp h why).2], fun c => ?_⟩
  rw [State.halt_chan h]
  exact Channel.aborted_running _

/-- A halt raises RUN_HALTED and takes no kind out. -/
theorem State.halt_notices {s : State} (h : s.run.state = .active) (why : HaltReason) :
    Notice.runHalted.isIn (s.halt why).link.pendingSet = true ∧ s.pendingKept (s.halt why) := by
  rw [State.halt_of_active h]
  have hk := pendingKept_abortChannels allChans (s.haltBegun why)
  exact ⟨hk _ ((State.isIn_raise s .runHalted .runHalted).trans (by simp)), (s.pendingKept_raise .runHalted).trans hk⟩

/-- The records and counters of a halt. -/
theorem State.halt_posts {s : State} (h : s.run.state = .active) (why : HaltReason) :
    (s.halt why).results = { records := s.results.records ++ allChans.filterMap s.haltPost, waiting := [] } ∧
      (s.halt why).counters = s.counted ((allChans.filterMap s.haltPost).map resultEvent) := by
  rw [State.halt_of_active h]
  obtain ⟨hr, hc⟩ := abortChannels_posts allChans (by decide) (s.haltBegun why)
  exact ⟨hr, hc.trans (State.counted_congr (s := s.haltBegun why) (t := s) rfl _)⟩

/-- The relays after a halt: the emergency open (R52). -/
theorem State.halt_relays {s : State} (h : s.run.state = .active) (why : HaltReason)
    (hwf : s.relays.nodes.wf = true) :
    emergencyOpened s.time s.relays (s.halt why).relays ∧ (s.halt why).relays.tOp = s.relays.tOp ∧
      (s.halt why).relays.tRel = s.relays.tRel := by
  have hfold : ∀ {α : Type} (m : State → α), (∀ t c, m (State.abortChannel t c) = m t) →
      m (s.haltAborted why) = m (s.haltBegun why) := fun m hm => foldl_keep _ m hm _ _
  have hrel : (s.haltAborted why).relays = s.relays := hfold State.relays (by simp)
  have htime : (s.haltAborted why).time = s.time := hfold State.time (by simp)
  have he := emergencyOpened_emergencyOpen (s := s.haltAborted why) (by rw [hrel]; exact hwf)
  rw [htime, hrel] at he
  have hop : (s.haltAborted why).relays.tOp = s.relays.tOp := by rw [hrel]
  have hrl : (s.haltAborted why).relays.tRel = s.relays.tRel := by rw [hrel]
  rw [State.halt_of_active h]
  exact ⟨he, hop, hrl⟩

/-- A halt of an ACTIVE run is what `haltTaken` says. -/
theorem haltTaken_halt {s : State} (h : s.run.state = .active) (why : HaltReason) (hwf : s.relays.nodes.wf = true) :
    haltTaken s why (s.halt why) := by
  obtain ⟨hplan, hdisp⟩ := State.halt_disp h why
  obtain ⟨hnote, hkept⟩ := State.halt_notices h why
  obtain ⟨hres, hcnt⟩ := State.halt_posts h why
  obtain ⟨hopen, hop, hrel⟩ := State.halt_relays h why hwf
  refine ⟨State.halt_run h why, hnote, hkept, hplan, ?_, fun c => ?_, hres, hcnt, fun hn => ⟨by simp, fun j => ?_⟩,
    hopen, hop, hrel, by simp, by simp, by simp⟩
  · rw [hdisp]
    cases s.disp.fetch <;> rfl
  · rw [State.halt_chan h]
    unfold Channel.aborted
    split <;> simp_all
  · have hn' : (s.haltBegun why).noRetireWrap := hn
    obtain ⟨hyes, hno⟩ := abortChannels_sites allChans (by decide) (s := s.haltBegun why) rfl hn' j
    have hret : (s.siteState j = .active ∧ ∃ c ∈ allChans, s.abortRetires c j) ↔
        s.siteState j = .active ∧ ∃ c, s.abortRetires c j := by simp [mem_allChans]
    rw [State.halt_of_active h]
    exact ⟨fun hr => hyes (hret.2 hr), fun hr => hno fun hc => hr (hret.1 hc)⟩

/-- A halt is the same whatever the model's two transient fields are. -/
theorem haltTaken_of_transients {s t : State} {why : HaltReason} {asked e : Bool}
    (h : haltTaken ((s.withRun { s.run with haltAsked := asked }).withExamDue e) why t) : haltTaken s why t := by
  obtain ⟨hrun, hnote, hkept, hplan, hdisp, hchan, hres, hcnt, hrest⟩ := h
  exact ⟨hrun, hnote, hkept, hplan, hdisp, hchan, hres, hcnt.trans
    (State.counted_congr (s := (s.withRun { s.run with haltAsked := asked }).withExamDue e) (t := s) rfl _), hrest⟩

/-- The link's other parts do not matter to a halt. -/
theorem haltTaken_withLink {s t : State} {why : HaltReason} (h : haltTaken s why t) {l : Link}
    (hl : l.pendingSet = t.link.pendingSet) : haltTaken s why (t.withLink l) := by
  obtain ⟨hrun, hnote, hkept, hplan, hdisp, hchan, hres, hcnt, hsites, hrest⟩ := h
  refine ⟨hrun, ?_, fun k hk => ?_, hplan, hdisp, hchan, hres, hcnt, fun hn => ?_, hrest⟩
  · rw [State.withLink_link, hl]; exact hnote
  · rw [State.withLink_link, hl]; exact hkept k hk
  · rw [State.withLink_link, hl]; exact hsites hn

end Sys2Proof.Machine
end

section
/-! SUPPORT. The close of an event (R139, R60, R151): the asked halt, the examination where none is due, and the completion
test as `completionTested` says. -/

namespace Sys2Proof.Machine

/-! ## The asked halt -/

theorem State.takeAskedHalt_of_not {s : State} (h : s.run.haltAsked = false) : s.takeAskedHalt = s := by
  unfold State.takeAskedHalt; rw [if_neg (by simp [h])]

theorem State.takeAskedHalt_of_asked {s : State} (h : s.run.haltAsked = true) :
    s.takeAskedHalt = (s.withRun { s.run with haltAsked := false }).halt .limit := by
  unfold State.takeAskedHalt; rw [if_pos h]

/-! ## Where no examination is made -/

theorem examineLoop_stop {s : State} (h : s.disp.examDue = false ∨ s.run.state ≠ .active) (n : Nat) :
    examineLoop n s = s := by
  cases n with
  | zero => rfl
  | succ n =>
    unfold examineLoop
    rw [if_neg]
    rw [Bool.and_eq_true, State.active_iff]
    rintro ⟨he, ha⟩
    rcases h with h | h
    · rw [h] at he; cases he
    · exact h ha

/-- With no examination due, or outside an ACTIVE run, none is made (R60). -/
theorem State.examine_stop {s : State} (h : s.disp.examDue = false ∨ s.run.state ≠ .active) :
    s.examine = s.withExamDue false := by
  unfold State.examine; simp only [examineLoop_stop h]; rfl

/-! ## The completion test (R151) -/

theorem State.fetchAtEnd_iff (s : State) : s.fetchAtEnd = true ↔ ∃ w, s.disp.fetch = .atEnd w := by
  unfold State.fetchAtEnd
  cases s.disp.fetch <;> simp

theorem State.chanIdle_iff (s : State) (c : Chan) : s.chanIdle c = true ↔ (s.chan c).running = none := by
  unfold State.chanIdle Channel.idle
  exact Option.isNone_iff_eq_none

theorem State.completed_iff (s : State) :
    s.completed = true ↔ s.run.state = .active ∧ (∃ w, s.disp.fetch = .atEnd w) ∧ s.disp.window = [] ∧
      ∀ c, (s.chan c).running = none := by
  unfold State.completed
  simp only [Bool.and_eq_true, State.active_iff, State.fetchAtEnd_iff, decide_eq_true_eq, List.all_eq_true,
    State.chanIdle_iff, mem_allChans, true_implies, and_assoc]

theorem State.testDone_of_not {s : State} (h : s.completed = false) : s.testDone = s := by
  unfold State.testDone; rw [if_neg (by simp [h])]

theorem State.testDone_of_completed {s : State} (h : s.completed = true) :
    s.testDone = ((s.withRun { s.run with state := .done }).endReleaseAll).raise .runDone := by
  unfold State.testDone; rw [if_pos h]

theorem State.endRelease_eq (s : State) (c : Chan) : s.endRelease c = s.withRelays (s.endRelease c).relays := by
  unfold State.endRelease
  repeat' split
  all_goals rfl

/-- The END release changes the Relay Map alone. -/
theorem State.endReleaseAll_eq (s : State) : s.endReleaseAll = s.withRelays s.endReleaseAll.relays := by
  unfold State.endReleaseAll
  induction allChans generalizing s with
  | nil => rfl
  | cons c cs ih =>
    rw [List.foldl_cons, ih (s.endRelease c)]
    nth_rw 1 [s.endRelease_eq c]
    rfl

/-- A completed run: DONE, the END release made, RUN_DONE raised, everything else as it was (R151). -/
theorem State.testDone_of_completed_eq {s : State} (h : s.completed = true) :
    s.testDone = ((s.withRun { s.run with state := .done }).withRelays s.testDone.relays).withLink
      (s.link.raise .runDone) := by
  have hd := State.testDone_of_completed h
  rw [hd]
  nth_rw 1 [State.endReleaseAll_eq]
  rfl

/-- The completion test is what `completionTested` says. -/
theorem completionTested_testDone {s : State} (hwf : s.relays.nodes.wf = true) : completionTested s s.testDone := by
  refine ⟨fun h => State.testDone_of_not (by rw [← s.completed_iff] at h; simpa using h), fun h => ?_⟩
  have hc := s.completed_iff.2 h
  have heq := State.testDone_of_completed_eq hc
  have hlink : s.testDone.link = s.link.raise .runDone := congrArg State.link heq
  refine ⟨?_, ?_, fun k hk => ?_, ?_⟩
  · have he := endReleased_endReleaseAll (s := s.withRun { s.run with state := .done }) hwf
    rw [State.testDone_of_completed hc]
    exact he
  · rw [hlink, Link.isIn_raise]; simp
  · rw [hlink, Link.isIn_raise, hk]; rfl
  · rw [hlink]; exact heq

/-! ## The close of an event -/

/-- With nothing asked for and no examination due the close is the completion test. -/
theorem State.closeEvent_of_quiet {s : State} (ha : s.run.haltAsked = false)
    (he : s.disp.examDue = false ∨ s.run.state ≠ .active) : s.closeEvent = (s.withExamDue false).testDone := by
  unfold State.closeEvent
  rw [State.takeAskedHalt_of_not ha, State.examine_stop he]

/-- Outside an ACTIVE run the close clears the model's two transient fields alone. -/
theorem State.closeEvent_of_not_active {s : State} (h : s.run.state ≠ .active) :
    s.closeEvent = (s.withRun { s.run with haltAsked := false }).withDisp { s.disp with examDue := false } := by
  have hrun : s.takeAskedHalt = s.withRun { s.run with haltAsked := false } := by
    cases ha : s.run.haltAsked
    · rw [State.takeAskedHalt_of_not ha, ← ha]; rfl
    · exact (State.takeAskedHalt_of_asked ha).trans
        (State.halt_of_not_active (s := s.withRun { s.run with haltAsked := false }) h .limit)
  have hx : (s.withRun { s.run with haltAsked := false }).run.state ≠ .active := h
  unfold State.closeEvent
  rw [hrun, State.examine_stop (Or.inr hx), State.testDone_of_not]
  · rfl
  · rw [Bool.eq_false_iff, Ne, State.completed_iff]
    exact fun hc => h hc.1

/-- A halt asked for in an ACTIVE run is all that the close does. -/
theorem State.closeEvent_of_asked {s : State} (ha : s.run.haltAsked = true) (h : s.run.state = .active) :
    s.closeEvent = (s.withRun { s.run with haltAsked := false }).halt .limit := by
  set t := (s.withRun { s.run with haltAsked := false }).halt .limit with ht
  have hact : (s.withRun { s.run with haltAsked := false }).run.state = .active := h
  have hstate : t.run.state ≠ .active := by rw [(State.halt_quiet hact .limit).1]; simp
  have hrun : t.run.haltAsked = false := by rw [ht, State.halt_run hact]
  have hdisp : t.disp.examDue = false := by rw [ht, (State.halt_disp hact .limit).2]
  unfold State.closeEvent
  rw [State.takeAskedHalt_of_asked ha, ← ht, State.examine_stop (Or.inr hstate), State.withExamDue_self hdisp,
    State.testDone_of_not]
  rw [Bool.eq_false_iff, Ne, State.completed_iff]
  exact fun hc => hstate hc.1

theorem haltTaken_closeEvent {s : State} (ha : s.run.haltAsked = true) (h : s.run.state = .active)
    (hwf : s.relays.nodes.wf = true) : haltTaken s .limit s.closeEvent := by
  rw [State.closeEvent_of_asked ha h]
  exact haltTaken_of_transients (e := s.disp.examDue)
    (haltTaken_halt (s := s.withRun { s.run with haltAsked := false }) h .limit hwf)

end Sys2Proof.Machine
end

section
/-! SUPPORT. What the operations of an event's close keep, whatever the counters do: pending notices stay, banks keep their
state and records or are drained, site entries that are not ACTIVE stand, the window takes nothing in, and the fetch is
left or stopped. -/

namespace Sys2Proof.Machine

/-- A bank that keeps its state and its records, or loses them. -/
def Bank.descends (x y : Bank) : Prop :=
  (y.state = x.state ∨ y.state = .empty) ∧ (y.records = x.records ∨ y.records = [])

theorem Bank.descends_refl (x : Bank) : x.descends x := ⟨Or.inl rfl, Or.inl rfl⟩

theorem Bank.descends_reset (x : Bank) : x.descends Bank.reset := ⟨Or.inr rfl, Or.inr rfl⟩

theorem Bank.descends.trans {x y z : Bank} (h : x.descends y) (g : y.descends z) : x.descends z := by
  obtain ⟨hs, hr⟩ := h
  obtain ⟨gs, gr⟩ := g
  constructor
  · rcases gs with gs | gs
    · rw [gs]; exact hs
    · exact Or.inr gs
  · rcases gr with gr | gr
    · rw [gr]; exact hr
    · exact Or.inr gr

/-- What every operation of an event's close keeps. -/
structure State.Evolves (s t : State) : Prop where
  pending : s.pendingKept t
  plan : ∀ w, (s.plan.get w).descends (t.plan.get w)
  sites : ∀ j, s.siteState j ≠ .active → t.sites.entries.get j = s.sites.entries.get j
  window : ∀ e ∈ t.disp.window, ∃ d ∈ s.disp.window, d.inst = e.inst
  fetch : t.disp.fetch = s.disp.fetch ∨ t.disp.fetch = s.disp.fetch.halted

theorem Fetch.halted_halted (f : Fetch) : f.halted.halted = f.halted := by cases f <;> rfl

theorem State.Evolves.trans {s t u : State} (h : s.Evolves t) (g : t.Evolves u) : s.Evolves u where
  pending := h.pending.trans g.pending
  plan := fun w => (h.plan w).trans (g.plan w)
  sites := fun j hj => by
    have hs := h.sites j hj
    rw [g.sites j (by unfold State.siteState at hj ⊢; rw [hs]; exact hj), hs]
  window := fun e he => by
    obtain ⟨d, hd, hde⟩ := g.window e he
    obtain ⟨c, hc, hcd⟩ := h.window d hd
    exact ⟨c, hc, hcd.trans hde⟩
  fetch := by
    rcases h.fetch with h | h <;> rcases g.fetch with g | g <;> rw [g, h]
    · exact Or.inl rfl
    · exact Or.inr rfl
    · exact Or.inr rfl
    · exact Or.inr (Fetch.halted_halted _)

/-- An operation that changes neither the plan nor the sites, and of the dispatcher's window the two fields of its
entries at most. -/
theorem State.Evolves.of_frame {s t : State} (hpend : s.pendingKept t) (hplan : t.plan = s.plan)
    (hsites : t.sites = s.sites) (hwin : ∀ e ∈ t.disp.window, ∃ d ∈ s.disp.window, d.inst = e.inst)
    (hfetch : t.disp.fetch = s.disp.fetch) : s.Evolves t where
  pending := hpend
  plan := fun w => by rw [hplan]; exact Bank.descends_refl _
  sites := fun _ _ => by rw [hsites]
  window := hwin
  fetch := Or.inl hfetch

/-- An operation that leaves the plan, the sites and the dispatcher. -/
theorem State.Evolves.of_eq {s t : State} (hpend : s.pendingKept t) (hplan : t.plan = s.plan)
    (hsites : t.sites = s.sites) (hdisp : t.disp = s.disp) : s.Evolves t :=
  .of_frame hpend hplan hsites (fun e he => ⟨e, hdisp ▸ he, rfl⟩) (by rw [hdisp])

theorem State.Evolves.refl (s : State) : s.Evolves s := .of_eq s.pendingKept_refl rfl rfl rfl

theorem State.evolves_raise (s : State) (k : Notice) : s.Evolves (s.raise k) :=
  .of_eq (s.pendingKept_raise k) rfl rfl rfl

theorem State.evolves_withExamDue (s : State) (e : Bool) : s.Evolves (s.withExamDue e) :=
  .of_frame s.pendingKept_refl rfl rfl (fun x hx => ⟨x, hx, rfl⟩) rfl

/-! ## Retirements and counting -/

theorem liveLowered_descends {s t : State} {lost : BankId → Nat} (h : liveLowered s lost t) (w : BankId) :
    (s.plan.get w).descends (t.plan.get w) := by
  obtain ⟨hd, hn⟩ := h w
  by_cases hc : lost w ≠ 0 ∧ s.run.state = .active ∧ (s.plan.get w).state = .draining ∧ (s.plan.get w).live ≤ lost w
  · rw [(hd hc).1]; exact Bank.descends_reset _
  · rw [hn hc]; exact ⟨Or.inl rfl, Or.inl rfl⟩

theorem State.evolves_retire (s : State) (j : Fin 8) (why : RetireReason) : s.Evolves (s.retire j why) := by
  by_cases h : s.siteState j = .active
  · refine ⟨s.pendingKept_retire j why, liveLowered_descends (State.retire_liveLowered h), fun i hi => ?_,
      fun e he => ?_, Or.inl (by simp)⟩
    · rw [State.retire_get h, if_neg]
      rintro rfl
      exact hi h
    · rw [State.retire_window h] at he
      exact ⟨e, List.mem_of_mem_filter he, rfl⟩
  · rw [State.retire_of_not_active h]; exact .refl s

theorem State.evolves_countAll (s : State) (f : Counter → Counter × Bool) : s.Evolves (s.countAll f) := by
  have hstep : ∀ (t : State) (k : Counter), t.Evolves (t.wrapEffects k) :=
    State.wrapEffects_rel State.Evolves.refl State.Evolves.trans (fun t => t.evolves_raise _)
      (fun t => .of_eq t.pendingKept_refl rfl rfl rfl) (fun t => .of_eq t.pendingKept_refl rfl rfl rfl)
      fun t j => t.evolves_retire j _
  rw [State.countAll_eq]
  exact State.Evolves.trans (t := s.rewritten f) (.of_eq s.pendingKept_refl rfl rfl rfl)
    (foldl_rel State.Evolves.refl State.Evolves.trans _ _ (fun t k _ => hstep t k) _)

theorem State.evolves_offer (s : State) (o : Occurrence) : s.Evolves (s.offer o) := s.evolves_countAll _

theorem State.evolves_contactRetire (s : State) (i : Instance) (v : Verdict) : s.Evolves (s.contactRetire i v) := by
  rcases s.contactRetire_cases i v with ⟨j, -, -, -, h⟩ | ⟨-, h⟩ <;> rw [h]
  · exact s.evolves_retire j _
  · exact .refl s

/-! ## The walk -/

theorem State.evolves_closePhase (s : State) (c : Chan) : s.Evolves (s.closePhase c) := by
  unfold State.closePhase
  split
  · exact .refl s
  · split
    · exact .of_eq (State.pendingKept_of_eq (by simp)) (by simp) (by simp) (by simp)
    · exact State.Evolves.trans (.of_eq (State.pendingKept_of_eq (by simp)) (by simp) (by simp) (by simp))
        (State.evolves_offer _ _)

theorem State.evolves_connectFor (s : State) (c : Chan) (i : Instance) : s.Evolves (s.connectFor c i) := by
  unfold State.connectFor
  simp only
  split
  · refine State.Evolves.trans ?_ (State.evolves_closePhase _ c)
    exact .of_eq s.pendingKept_refl rfl rfl rfl
  · exact .of_eq (State.pendingKept_of_eq (by simp)) (by simp) (by simp) (by simp)

theorem State.evolves_dispatchTo (s : State) (e : WindowEntry) (c : Chan) : s.Evolves (s.dispatchTo e c) := by
  unfold State.dispatchTo
  refine State.Evolves.trans ?_ (State.evolves_offer _ _)
  refine State.Evolves.trans ?_ (State.evolves_connectFor _ c e.inst)
  exact .of_frame s.pendingKept_refl rfl rfl (fun x hx => ⟨x, List.mem_of_mem_filter hx, rfl⟩) rfl

theorem State.markEntry_window (s : State) (k : BankId × Nat × Site) (why : Blocked) (recalled : List Node) :
    (s.markEntry k why recalled).disp.window =
      s.disp.window.map fun e =>
        if e.inst.key = k then { e with reason := why, recallSet := e.recallSet ++ recalled } else e := rfl

theorem State.evolves_markEntry (s : State) (k : BankId × Nat × Site) (why : Blocked) (recalled : List Node) :
    s.Evolves (s.markEntry k why recalled) := by
  refine .of_frame s.pendingKept_refl rfl rfl (fun x hx => ?_) rfl
  rw [State.markEntry_window] at hx
  obtain ⟨e, he, rfl⟩ := List.mem_map.1 hx
  exact ⟨e, he, by split <;> rfl⟩

theorem State.evolves_recallFrom (s : State) (i : Instance) (c : Chan) : s.Evolves (State.recallFrom i s c) := by
  unfold State.recallFrom
  refine State.Evolves.trans ?_ (State.evolves_offer _ _)
  exact .of_eq s.pendingKept_refl rfl rfl rfl

theorem State.evolves_issueRecall (s : State) (e : WindowEntry) (owners : List Chan) :
    s.Evolves (s.issueRecall e owners) :=
  (s.evolves_markEntry e.inst.key .recall _).trans
    (foldl_rel State.Evolves.refl State.Evolves.trans _ _ (fun t c _ => t.evolves_recallFrom e.inst c) _)

/-- What an entry's turn in a walk comes to (R61). -/
theorem State.examineEntry_cases (s : State) (k : BankId × Nat × Site) :
    (s.entryOf k = none ∧ s.examineEntry k = s) ∨ ∃ e, s.entryOf k = some e ∧
      ((∃ why, s.decideEntry (s.olderThan k) e = .hold why ∧ s.examineEntry k = s.markEntry k why []) ∨
        (∃ owners, s.decideEntry (s.olderThan k) e = .recall owners ∧ s.examineEntry k = s.issueRecall e owners) ∨
        ∃ c, s.decideEntry (s.olderThan k) e = .dispatch c ∧ s.examineEntry k = s.dispatchTo e c) := by
  unfold State.examineEntry
  rcases he : s.entryOf k with _ | e
  · exact Or.inl ⟨rfl, rfl⟩
  · refine Or.inr ⟨e, rfl, ?_⟩
    rcases hd : s.decideEntry (s.olderThan k) e with why | owners | c
    · exact Or.inl ⟨why, rfl, by simp only [hd]⟩
    · exact Or.inr (Or.inl ⟨owners, rfl, by simp only [hd]⟩)
    · exact Or.inr (Or.inr ⟨c, rfl, by simp only [hd]⟩)

theorem State.evolves_examineEntry (s : State) (k : BankId × Nat × Site) : s.Evolves (s.examineEntry k) := by
  rcases s.examineEntry_cases k with
    ⟨-, h⟩ | ⟨e, -, ⟨why, -, h⟩ | ⟨owners, -, h⟩ | ⟨c, -, h⟩⟩ <;> rw [h]
  · exact .refl s
  · exact s.evolves_markEntry k why []
  · exact s.evolves_issueRecall e owners
  · exact s.evolves_dispatchTo e c

theorem State.evolves_walk (s : State) : s.Evolves s.walk :=
  (s.evolves_withExamDue false).trans
    (foldl_rel State.Evolves.refl State.Evolves.trans _ _ (fun t k _ => t.evolves_examineEntry k) _)

/-! ## The halt, the examination and the completion test -/

theorem State.evolves_abortChannel (s : State) (c : Chan) : s.Evolves (s.abortChannel c) := by
  rcases s.abortChannel_cases c with ⟨-, -, ha⟩ | ⟨k, -, -, -, ha⟩ | ⟨k, r, -, -, -, ha⟩ <;> rw [ha]
  · exact .refl s
  · exact .of_eq s.pendingKept_refl rfl rfl rfl
  · have happ : s.Evolves ((s.stimulusOff c).appendRecord r) :=
      .of_eq ((s.stimulusOff c).pendingKept_appendRecord r) (by simp) (by simp) (by simp)
    have hpost := (happ.trans (State.evolves_offer _ (.ofRecord r))).trans
      (State.evolves_contactRetire _ k.inst r.outcome)
    exact hpost.trans (.of_eq (State.pendingKept_refl _) rfl rfl rfl)

theorem State.evolves_halt (s : State) (why : HaltReason) : s.Evolves (s.halt why) := by
  by_cases h : s.run.state = .active
  · have hbegun : s.Evolves (s.haltBegun why) :=
      ⟨s.pendingKept_raise .runHalted, fun w => Bank.descends_refl _, fun _ _ => rfl, fun e he => absurd he List.not_mem_nil,
        Or.inr rfl⟩
    have habort : (s.haltBegun why).Evolves (s.haltAborted why) :=
      foldl_rel State.Evolves.refl State.Evolves.trans _ _ (fun t c _ => t.evolves_abortChannel c) _
    rw [State.halt_of_active h]
    exact (hbegun.trans habort).trans
      (.of_frame (State.pendingKept_refl _) rfl rfl (fun e he => ⟨e, he, rfl⟩) rfl)
  · rw [State.halt_of_not_active h]; exact .refl s

theorem State.evolves_takeAskedHalt (s : State) : s.Evolves s.takeAskedHalt := by
  cases h : s.run.haltAsked
  · rw [State.takeAskedHalt_of_not h]; exact .refl s
  · rw [State.takeAskedHalt_of_asked h]
    refine State.Evolves.trans ?_ (State.evolves_halt _ .limit)
    exact .of_eq s.pendingKept_refl rfl rfl rfl

theorem evolves_examineLoop (n : Nat) (s : State) : s.Evolves (examineLoop n s) := by
  induction n generalizing s with
  | zero => exact .refl s
  | succ n ih =>
    unfold examineLoop
    split
    · exact (s.evolves_walk.trans (State.evolves_takeAskedHalt _)).trans (ih _)
    · exact .refl s

theorem State.evolves_testDone (s : State) : s.Evolves s.testDone := by
  cases h : s.completed
  · rw [State.testDone_of_not h]; exact .refl s
  · rw [State.testDone_of_completed_eq h]
    exact .of_eq (s.pendingKept_raise .runDone) rfl rfl rfl

theorem State.evolves_closeEvent (s : State) : s.Evolves s.closeEvent :=
  (s.evolves_takeAskedHalt.trans ((evolves_examineLoop _ _).trans (State.evolves_withExamDue _ false))).trans
    (State.evolves_testDone _)

end Sys2Proof.Machine
end

section
/-! SUPPORT. Walks of the window where no counter acts on a wrap or nothing can be dispatched (R60, R61): what a walk leaves,
and the examination and the close of an event in the terms of the statements. -/

namespace Sys2Proof.Machine

/-! ## What a calm operation keeps -/

/-- What a walk keeps where no counter acts on a wrap. -/
structure State.Calm (s t : State) : Prop where
  run : t.run = s.run
  sites : t.sites = s.sites
  plan : t.plan = s.plan
  results : t.results = s.results
  time : t.time = s.time
  fetch : t.disp.fetch = s.disp.fetch
  paused : t.disp.paused = s.disp.paused
  wf : s.relays.nodes.wf = true → t.relays.nodes.wf = true
  passive : s.countersPassive → t.countersPassive
  still : s.countersStill → t.counters = s.counters

theorem State.Calm.refl (s : State) : s.Calm s :=
  ⟨rfl, rfl, rfl, rfl, rfl, rfl, rfl, id, id, fun _ => rfl⟩

theorem State.Calm.trans {s t u : State} (h : s.Calm t) (g : t.Calm u) : s.Calm u where
  run := g.run.trans h.run
  sites := g.sites.trans h.sites
  plan := g.plan.trans h.plan
  results := g.results.trans h.results
  time := g.time.trans h.time
  fetch := g.fetch.trans h.fetch
  paused := g.paused.trans h.paused
  wf := fun hs => g.wf (h.wf hs)
  passive := fun hs => g.passive (h.passive hs)
  still := fun hs => by
    have ht := h.still hs
    rw [g.still (by unfold State.countersStill; rw [ht]; exact hs), ht]

/-- An operation on the relays, the channels, the window and the link. -/
theorem State.Calm.of_frame {s t : State} (hrun : t.run = s.run) (hsites : t.sites = s.sites) (hplan : t.plan = s.plan)
    (hres : t.results = s.results) (htime : t.time = s.time) (hfetch : t.disp.fetch = s.disp.fetch)
    (hpaused : t.disp.paused = s.disp.paused) (hcnt : t.counters = s.counters)
    (hwf : s.relays.nodes.wf = true → t.relays.nodes.wf = true) : s.Calm t :=
  ⟨hrun, hsites, hplan, hres, htime, hfetch, hpaused, hwf, fun h => by unfold State.countersPassive; rw [hcnt]; exact h,
    fun _ => hcnt⟩

theorem State.calm_withExamDue (s : State) (e : Bool) : s.Calm (s.withExamDue e) :=
  .of_frame rfl rfl rfl rfl rfl rfl rfl rfl id

theorem State.calm_markEntry (s : State) (k : BankId × Nat × Site) (why : Blocked) (recalled : List Node) :
    s.Calm (s.markEntry k why recalled) := .of_frame rfl rfl rfl rfl rfl rfl rfl rfl id

/-! ## Counting where no counter acts on a wrap -/

/-- Where no counter acts on a wrap an occurrence changes the counters and the notices alone. -/
theorem State.offer_passive {s : State} (h : s.countersPassive) (o : Occurrence) :
    s.Calm (s.offer o) ∧ (s.offer o).disp = s.disp := by
  rcases h with hf | hact
  · rw [State.offer_frozen hf]
    exact ⟨.refl s, rfl⟩
  · have hks : ∀ k ∈ s.wrapping (Counter.onOccurrence s.counters.frozen o), k.action = .none := by
      intro k hk
      obtain ⟨i, rfl, -⟩ := (s.mem_wrapping _ k).1 hk
      exact hact i
    have hfold : (s.offer o).plan = s.plan ∧ (s.offer o).sites = s.sites ∧ (s.offer o).disp = s.disp ∧
        (s.offer o).run = s.run := by
      rw [State.offer_eq, State.countAll_eq]
      refine foldl_rel (R := fun s t : State => t.plan = s.plan ∧ t.sites = s.sites ∧ t.disp = s.disp ∧ t.run = s.run)
        (fun _ => ⟨rfl, rfl, rfl, rfl⟩) (fun h g => ?_) _ _ (fun t k hk => ?_) (s.rewritten _)
      · obtain ⟨h1, h2, h3, h4⟩ := h
        obtain ⟨g1, g2, g3, g4⟩ := g
        exact ⟨g1.trans h1, g2.trans h2, g3.trans h3, g4.trans h4⟩
      · rw [State.wrapEffects_none (hks k hk)]
        exact ⟨rfl, rfl, rfl, rfl⟩
    obtain ⟨hplan, hsites, hdisp, hrun⟩ := hfold
    refine ⟨⟨hrun, hsites, hplan, by simp, by simp, by rw [hdisp], by rw [hdisp], by simp,
      fun _ => Or.inr fun i => ?_, fun hs => by rw [State.offer_frozen hs]⟩, hdisp⟩
    rw [State.offer_eq, State.countAll_get]
    simpa using hact i

/-! ## The Relay Map's part of a dispatch -/

theorem wf_sortParked {t : NodeTable} (h : t.wf = true) (c : Chan) (i : Instance) : (sortParked t c i).wf = true := by
  unfold sortParked
  refine NodeTable.wf_foldl _ (fun t n ht => ?_) _ _ (NodeTable.wf_rewrite h _)
  unfold claimNode
  split
  · exact NodeTable.wf_setState ht _ _
  · exact ht

theorem State.wf_closeNodes {s : State} (h : s.relays.nodes.wf = true) (c : Chan) (ps : List (Node × Line)) :
    (s.closeNodes c ps).relays.nodes.wf = true :=
  NodeTable.wf_foldl (closeNode c) (fun _ _ ht => NodeTable.wf_set ht _ _) ps _ h

theorem State.closePhase_passive {s : State} (h : s.countersPassive) (c : Chan) :
    s.Calm (s.closePhase c) ∧ (s.closePhase c).disp = s.disp := by
  unfold State.closePhase
  split
  next => exact ⟨.refl s, rfl⟩
  next k hk =>
    split
    · exact ⟨.of_frame (by simp) (by simp) (by simp) (by simp) (by simp) (by simp) (by simp) (by simp) (by simp),
        by simp⟩
    · set t := (s.withRunning c (some { k with phase := .connecting .close })).closeNodes c (s.toClose k.inst)
      have ht : s.Calm t := .of_frame rfl rfl rfl rfl rfl rfl rfl rfl fun hs => State.wf_closeNodes hs c _
      obtain ⟨hcalm, hdisp⟩ := State.offer_passive (ht.passive h)
        (Occurrence.ofInst .close (s.toClose k.inst).length c k.inst)
      exact ⟨ht.trans hcalm, hdisp⟩

theorem State.connectFor_passive {s : State} (h : s.countersPassive) (c : Chan) (i : Instance) :
    s.Calm (s.connectFor c i) ∧ (s.connectFor c i).disp = s.disp := by
  unfold State.connectFor
  simp only
  set t := s.withRelays { s.relays with
    nodes := sortParked s.relays.nodes c i
    waitList := s.relays.waitList.filter fun w => !(decide (w = { ch := c, cause := .endRun })) }
  have ht : s.Calm t := .of_frame rfl rfl rfl rfl rfl rfl rfl rfl fun hs => wf_sortParked hs c i
  split
  · obtain ⟨hcalm, hdisp⟩ := State.closePhase_passive (ht.passive h) c
    exact ⟨ht.trans hcalm, hdisp⟩
  · refine ⟨ht.trans (.of_frame (by simp) (by simp) (by simp) (by simp) (by simp) (by simp) (by simp) (by simp)
      fun hs => State.wf_appendEntry (by simpa using hs) _ _ _), by simp [t]⟩

/-- A dispatch where no counter acts on a wrap: the entries of its identity leave the window, and an examination is
due. -/
theorem State.dispatchTo_passive {s : State} (h : s.countersPassive) (e : WindowEntry) (c : Chan) :
    s.Calm (s.dispatchTo e c) ∧ (s.dispatchTo e c).disp =
      { s.disp with window := s.disp.window.filter (fun x => !(decide (x.inst.key = e.inst.key))), examDue := true } := by
  unfold State.dispatchTo
  set u := ((s.withWindow (s.disp.window.filter fun x => !(decide (x.inst.key = e.inst.key)))).noteExam).withChan c
    { (((s.withWindow (s.disp.window.filter fun x => !(decide (x.inst.key = e.inst.key)))).noteExam).chan c) with
      running := some { inst := e.inst, attempt := 1, phase := .connecting .close }, monitor := .empty }
  have hu : s.Calm u := .of_frame rfl rfl rfl rfl rfl rfl rfl rfl id
  obtain ⟨hcalm, hdisp⟩ := State.connectFor_passive (hu.passive h) c e.inst
  obtain ⟨hcalm', hdisp'⟩ := State.offer_passive (hcalm.passive (hu.passive h)) (Occurrence.ofInst .dispatch 1 c e.inst)
  exact ⟨hu.trans (hcalm.trans hcalm'), (hdisp'.trans hdisp).trans rfl⟩

theorem State.recallFrom_passive {s : State} (h : s.countersPassive) (i : Instance) (c : Chan) :
    s.Calm (State.recallFrom i s c) ∧ (State.recallFrom i s c).disp = s.disp := by
  unfold State.recallFrom
  have ht : s.Calm (s.appendEntry c .recall (s.parkedFor i c)) :=
    .of_frame rfl rfl rfl rfl rfl rfl rfl rfl fun hs => State.wf_appendEntry hs _ _ _
  obtain ⟨hcalm, hdisp⟩ := State.offer_passive (ht.passive h)
    { event := .recall, value := (s.parkedFor i c).length, ch := c, site := none, group := none, outcome := none }
  exact ⟨ht.trans hcalm, hdisp⟩

theorem State.issueRecall_passive {s : State} (h : s.countersPassive) (e : WindowEntry) (owners : List Chan) :
    s.Calm (s.issueRecall e owners) ∧ (s.issueRecall e owners).disp =
      (s.markEntry e.inst.key .recall (owners.flatMap fun c => s.parkedFor e.inst c)).disp := by
  have hfold : ∀ (l : List Chan) (t : State), t.countersPassive →
      t.Calm (l.foldl (State.recallFrom e.inst) t) ∧ (l.foldl (State.recallFrom e.inst) t).disp = t.disp := by
    intro l
    induction l with
    | nil => exact fun t _ => ⟨.refl t, rfl⟩
    | cons c l ih =>
      intro t ht
      obtain ⟨hcalm, hdisp⟩ := State.recallFrom_passive ht e.inst c
      obtain ⟨hcalm', hdisp'⟩ := ih _ (hcalm.passive ht)
      exact ⟨hcalm.trans hcalm', hdisp'.trans hdisp⟩
  have hm := s.calm_markEntry e.inst.key .recall (owners.flatMap fun c => s.parkedFor e.inst c)
  obtain ⟨hcalm, hdisp⟩ := hfold owners _ (hm.passive h)
  exact ⟨hm.trans hcalm, hdisp⟩

/-! ## An entry's turn -/

/-- No counter acts on a wrap, or dispatch is paused: an entry's turn has no effect beyond the dispatch itself. -/
def State.turnsCalm (s : State) : Prop := s.countersPassive ∨ s.disp.paused = true

theorem State.Calm.turnsCalm {s t : State} (h : s.Calm t) (hs : s.turnsCalm) : t.turnsCalm :=
  hs.imp h.passive fun hp => h.paused.trans hp

theorem State.decideEntry_paused {s : State} (h : s.disp.paused = true) (older : List WindowEntry) (e : WindowEntry) :
    s.decideEntry older e = .hold .paused := by
  unfold State.decideEntry; rw [if_pos h]

/-- What an entry's turn comes to, where turns are calm: nothing, a mark on the entries of its identity, or a dispatch of
an entry of the window to a channel, in a state where no counter acts on a wrap. -/
theorem State.examineEntry_calm_cases {s : State} (h : s.turnsCalm) (k : BankId × Nat × Site) :
    s.examineEntry k = s ∨ (∃ why, s.examineEntry k = s.markEntry k why []) ∨
      (s.countersPassive ∧ ∃ e, s.entryOf k = some e ∧
        ((∃ owners, s.examineEntry k = s.issueRecall e owners) ∨
          ∃ c, s.decideEntry (s.olderThan k) e = .dispatch c ∧ s.examineEntry k = s.dispatchTo e c)) := by
  rcases s.examineEntry_cases k with ⟨-, hx⟩ | ⟨e, he, ⟨why, -, hx⟩ | ⟨owners, hd, hx⟩ | ⟨c, hd, hx⟩⟩
  · exact Or.inl hx
  · exact Or.inr (Or.inl ⟨why, hx⟩)
  · rcases h with h | h
    · exact Or.inr (Or.inr ⟨h, e, he, Or.inl ⟨owners, hx⟩⟩)
    · rw [State.decideEntry_paused h] at hd; cases hd
  · rcases h with h | h
    · exact Or.inr (Or.inr ⟨h, e, he, Or.inr ⟨c, hd, hx⟩⟩)
    · rw [State.decideEntry_paused h] at hd; cases hd

theorem State.entryOf_some {s : State} {k : BankId × Nat × Site} {e : WindowEntry} (h : s.entryOf k = some e) :
    e ∈ s.disp.window ∧ e.inst.key = k :=
  ⟨List.mem_of_find?_eq_some h, by simpa using List.find?_some h⟩

/-- An entry's turn, where turns are calm. -/
theorem State.examineEntry_calm {s : State} (h : s.turnsCalm) (k : BankId × Nat × Site) :
    s.Calm (s.examineEntry k) ∧ s.examTracked (s.examineEntry k) := by
  rcases State.examineEntry_calm_cases h k with hx | ⟨why, hx⟩ | ⟨hp, e, he, ⟨owners, hx⟩ | ⟨c, -, hx⟩⟩ <;> rw [hx]
  · exact ⟨.refl s, State.examTracked_of_eq rfl⟩
  · exact ⟨s.calm_markEntry k why [], by simp [State.examTracked, State.markEntry]⟩
  · obtain ⟨hcalm, hdisp⟩ := State.issueRecall_passive hp e owners
    exact ⟨hcalm, by simp [State.examTracked, hdisp, State.markEntry]⟩
  · obtain ⟨hcalm, hdisp⟩ := State.dispatchTo_passive hp e c
    have hlt : (s.disp.window.filter fun x => !(decide (x.inst.key = e.inst.key))).length < s.disp.window.length := by
      rw [List.length_filter_lt_length_iff_exists]
      exact ⟨e, (State.entryOf_some he).1, by simp⟩
    refine ⟨hcalm, ?_, ?_⟩
    · rw [hdisp]; exact hlt.le
    · rw [hdisp, decide_eq_true hlt, Bool.or_true]

/-- A relation kept by every turn of a calm walk is kept by the walk. -/
theorem State.walk_rel {R : State → State → Prop} (refl : ∀ s, R s s) (trans : ∀ {s t u}, R s t → R t u → R s u)
    (h0 : ∀ s : State, R s (s.withExamDue false)) (step : ∀ (s : State) k, s.turnsCalm → R s (s.examineEntry k))
    {s : State} (h : s.turnsCalm) : R s s.walk := by
  have hfold : ∀ (l : List (BankId × Nat × Site)) (t : State), t.turnsCalm → R t (l.foldl State.examineEntry t) := by
    intro l
    induction l with
    | nil => exact fun t _ => refl t
    | cons k l ih =>
      exact fun t ht => trans (step t k ht) (ih _ ((State.examineEntry_calm ht k).1.turnsCalm ht))
  exact trans (h0 s) (hfold _ _ h)

theorem State.walk_calm {s : State} (h : s.turnsCalm) : s.Calm s.walk :=
  State.walk_rel State.Calm.refl State.Calm.trans (fun t => t.calm_withExamDue false)
    (fun _ k ht => (State.examineEntry_calm ht k).1) h

/-- After a calm walk an examination is due where the walk has taken an entry out of the window. -/
theorem State.walk_examDue {s : State} (h : s.turnsCalm) :
    s.walk.disp.window.length ≤ s.disp.window.length ∧
      s.walk.disp.examDue = decide (s.walk.disp.window.length < s.disp.window.length) := by
  have hfold : ∀ (l : List (BankId × Nat × Site)) (t : State), t.turnsCalm →
      t.examTracked (l.foldl State.examineEntry t) := by
    intro l
    induction l with
    | nil => exact fun t _ => State.examTracked_of_eq rfl
    | cons k l ih =>
      intro t ht
      obtain ⟨hcalm, htrack⟩ := State.examineEntry_calm ht k
      exact htrack.trans (ih _ (hcalm.turnsCalm ht))
  obtain ⟨hle, hexam⟩ := hfold (s.disp.window.map fun e => e.inst.key) (s.withExamDue false) h
  exact ⟨hle, hexam⟩

/-! ## The examination -/

/-- A walk of an empty window has no turns. -/
theorem State.walk_of_window_nil {s : State} (h : s.disp.window = []) : s.walk = s.withExamDue false := by
  unfold State.walk; rw [h]; rfl

/-- The walks have no effect beyond their dispatches: turns are calm, or there are none. -/
def State.walksCalm (s : State) : Prop := s.turnsCalm ∨ s.disp.window = []

theorem State.walksCalm_walk {s : State} (h : s.walksCalm) :
    s.Calm s.walk ∧ s.walk.disp.window.length ≤ s.disp.window.length ∧
      s.walk.disp.examDue = decide (s.walk.disp.window.length < s.disp.window.length) := by
  rcases h with h | h
  · exact ⟨State.walk_calm h, State.walk_examDue h⟩
  · rw [State.walk_of_window_nil h]
    exact ⟨s.calm_withExamDue false, by simp⟩

/-- The walks of an examination that is due, where they are calm and no halt is asked for: the last of them takes nothing
out of the window, and no examination is due after it (R60). -/
theorem examineLoop_examined (n : Nat) {s : State} (hn : s.disp.window.length < n) (h : s.walksCalm)
    (hask : s.run.haltAsked = false) (hact : s.run.state = .active) :
    Examined s (examineLoop n (s.withExamDue true)) ∧ s.Calm (examineLoop n (s.withExamDue true)) ∧
      (examineLoop n (s.withExamDue true)).disp.examDue = false := by
  induction n generalizing s with
  | zero => exact absurd hn (Nat.not_lt_zero _)
  | succ n ih =>
    obtain ⟨hcalm, hle, hexam⟩ := State.walksCalm_walk h
    have hstep : examineLoop (n + 1) (s.withExamDue true) = examineLoop n s.walk := by
      have hgo : ((s.withExamDue true).disp.examDue && (s.withExamDue true).active) = true := by
        rw [Bool.and_eq_true]
        exact ⟨rfl, s.active_iff.2 hact⟩
      rw [examineLoop, if_pos hgo]
      change examineLoop n s.walk.takeAskedHalt = _
      rw [State.takeAskedHalt_of_not (by rw [hcalm.run]; exact hask)]
    rw [hstep]
    by_cases hlt : s.walk.disp.window.length < s.disp.window.length
    · have hself : s.walk = s.walk.withExamDue true := (State.withExamDue_self (by rw [hexam]; simpa using hlt)).symm
      have hturns : s.walk.walksCalm := by
        rcases h with h | h
        · exact Or.inl (hcalm.turnsCalm h)
        · rw [h] at hlt; exact absurd hlt (Nat.not_lt_zero _)
      obtain ⟨hx, hc, he⟩ := ih (s := s.walk) (by omega) hturns (by rw [hcalm.run]; exact hask)
        (by rw [hcalm.run]; exact hact)
      rw [← hself] at hx hc he
      exact ⟨.again s _ hlt hx, hcalm.trans hc, he⟩
    · have he : s.walk.disp.examDue = false := by rw [hexam]; simpa using hlt
      rw [examineLoop_stop (Or.inl he)]
      exact ⟨.last s (le_antisymm hle (Nat.le_of_not_lt hlt)), hcalm, he⟩

theorem State.walksCalm_of_passive {s : State} (h : s.countersPassive) : s.walksCalm := Or.inl (Or.inl h)

/-- Where nothing can be dispatched walks are calm. -/
theorem State.walksCalm_of_dispatchQuiet {s : State} (h : s.dispatchQuiet) (hact : s.run.state = .active) :
    s.walksCalm := by
  rcases h with h | h | h
  · exact absurd hact h
  · exact Or.inl (Or.inr h)
  · exact Or.inr h

/-- The close of an event of an ACTIVE run that calls for an examination and asks for no halt, where the walks are calm:
the examination, and the completion test of the state it leaves (R60, R151). -/
theorem State.closeEvent_examined {s : State} (h : s.walksCalm) (hask : s.run.haltAsked = false)
    (hact : s.run.state = .active) :
    ∃ u, Examined s u ∧ s.Calm u ∧ (s.withExamDue true).closeEvent = u.testDone := by
  obtain ⟨hx, hc, he⟩ := examineLoop_examined (s.disp.window.length + 2) (by omega) h hask hact
  refine ⟨_, hx, hc, ?_⟩
  unfold State.closeEvent
  rw [State.takeAskedHalt_of_not (s := s.withExamDue true) hask]
  exact congrArg State.testDone (State.withExamDue_self he)

/-- Such a close is what `closedFrom` says. -/
theorem closedFrom_closeEvent {s : State} (h : s.run.state = .active → s.walksCalm) (hask : s.run.haltAsked = false)
    (hexam : s.disp.examDue = false) (hwf : s.relays.nodes.wf = true ∨ ∀ w, s.disp.fetch ≠ .atEnd w) :
    closedFrom s (s.withExamDue true).closeEvent := by
  constructor
  · intro hact
    obtain ⟨u, hx, hc, he⟩ := State.closeEvent_examined (h hact) hask hact
    refine ⟨u, hx, ?_⟩
    rw [he]
    rcases hwf with hwf | hfetch
    · exact completionTested_testDone (hc.wf hwf)
    · have hno : ¬ ∃ w, u.disp.fetch = .atEnd w := fun ⟨w, hw⟩ => hfetch w (by rw [← hc.fetch]; exact hw)
      refine ⟨fun _ => State.testDone_of_not ?_, fun hd => absurd hd.2.1 hno⟩
      rw [Bool.eq_false_iff, Ne, State.completed_iff]
      exact fun hd => hno hd.2.1
  · intro hna
    rw [State.closeEvent_of_not_active (s := s.withExamDue true) hna]
    have h1 : ({ s.run with haltAsked := false } : RunControl) = s.run := by rw [← hask]
    have h2 : ({ s.disp with examDue := false } : Dispatcher) = s.disp := by rw [← hexam]
    change (s.withRun { s.run with haltAsked := false }).withDisp { s.disp with examDue := false } = s
    rw [h1, h2]
    rfl

end Sys2Proof.Machine
end

section
/-! SUPPORT. The fetch (R26 to R30): the scan of the sites, one making, and the filling of the window as makings one after
another. -/

namespace Sys2Proof.Machine

/-! ## The scan of the sites (R27) -/

/-- A site passed over: a RETIRED one counts a skip. -/
def State.passOver (s : State) (i : Fin 8) : State :=
  match s.siteState i with
  | .retired _ => s.addSkipped i 1
  | .active => s
  | .off => s

theorem State.passOver_of_not_retired {s : State} {i : Fin 8} (h : ∀ why, s.siteState i ≠ .retired why) :
    s.passOver i = s := by
  unfold State.passOver
  cases hs : s.siteState i with
  | retired why => exact absurd hs (h why)
  | active | off => rfl

theorem State.passOver_get (s : State) (i j : Fin 8) :
    (s.passOver i).sites.entries.get j =
      if j = i ∧ s.siteState i ≠ .off ∧ s.siteState i ≠ .active then
        { s.sites.entries.get j with skipped := min 65535 ((s.sites.entries.get j).skipped + 1) }
      else s.sites.entries.get j := by
  unfold State.passOver
  cases hs : s.siteState i with
  | retired why =>
    by_cases hj : j = i <;> simp [hj, bumpBy]
  | active | off => simp

@[simp] theorem State.passOver_siteState (s : State) (i j : Fin 8) : (s.passOver i).siteState j = s.siteState j := by
  unfold State.siteState
  rw [State.passOver_get]
  split <;> rfl

theorem State.passOver_eq (s : State) (i : Fin 8) : s.passOver i = s.withSites (s.passOver i).sites := by
  unfold State.passOver
  cases s.siteState i <;> rfl

theorem State.passOver_sites_count (s : State) (i : Fin 8) : (s.passOver i).sites.count = s.sites.count := by
  unfold State.passOver
  cases s.siteState i <;> rfl

theorem foldl_passOver_eq (l : List (Fin 8)) (s : State) :
    l.foldl State.passOver s = s.withSites (l.foldl State.passOver s).sites := by
  induction l generalizing s with
  | nil => rfl
  | cons i l ih =>
    rw [List.foldl_cons, ih (s.passOver i)]
    nth_rw 1 [s.passOver_eq i]
    rfl

theorem foldl_passOver_siteState (l : List (Fin 8)) (s : State) (j : Fin 8) :
    (l.foldl State.passOver s).siteState j = s.siteState j :=
  foldl_keep State.passOver (fun t => t.siteState j) (fun t i => t.passOver_siteState i j) l s

theorem foldl_passOver_sites_count (l : List (Fin 8)) (s : State) :
    (l.foldl State.passOver s).sites.count = s.sites.count :=
  foldl_keep State.passOver (fun t => t.sites.count) (fun t i => t.passOver_sites_count i) l s

/-- The site entries after some sites have been passed over, none of them twice. -/
theorem foldl_passOver_get (l : List (Fin 8)) (hl : l.Nodup) (s : State) (j : Fin 8) :
    (l.foldl State.passOver s).sites.entries.get j =
      if j ∈ l ∧ s.siteState j ≠ .off ∧ s.siteState j ≠ .active then
        { s.sites.entries.get j with skipped := min 65535 ((s.sites.entries.get j).skipped + 1) }
      else s.sites.entries.get j := by
  induction l generalizing s with
  | nil => simp
  | cons i l ih =>
    rw [List.nodup_cons] at hl
    rw [List.foldl_cons, ih hl.2, State.passOver_siteState, State.passOver_get]
    by_cases hj : j = i
    · subst hj
      simp [hl.1]
    · simp [hj]

/-- What the scan finds: the first ACTIVE site of the list, with the sites before it passed over; or none, with all of
them passed over. -/
theorem scanSites_cases (l : List (Fin 8)) (s : State) :
    (∃ l1 i l2, l = l1 ++ i :: l2 ∧ s.siteState i = .active ∧ (∀ j ∈ l1, s.siteState j ≠ .active) ∧
      scanSites l s = (l1.foldl State.passOver s, some i)) ∨
    ((∀ j ∈ l, s.siteState j ≠ .active) ∧ scanSites l s = (l.foldl State.passOver s, none)) := by
  induction l generalizing s with
  | nil => exact Or.inr ⟨fun _ h => absurd h List.not_mem_nil, rfl⟩
  | cons i l ih =>
    by_cases hi : s.siteState i = .active
    · refine Or.inl ⟨[], i, l, rfl, hi, fun _ h => absurd h List.not_mem_nil, ?_⟩
      unfold scanSites
      rw [hi]
      rfl
    · have hstep : scanSites (i :: l) s = scanSites l (s.passOver i) := by
        unfold State.passOver
        rw [scanSites]
        cases hs : s.siteState i with
        | active => exact absurd hs hi
        | retired _ | off => rfl
      rw [hstep]
      rcases ih (s.passOver i) with ⟨l1, k, l2, rfl, hk, hl1, he⟩ | ⟨hl, he⟩
      · refine Or.inl ⟨i :: l1, k, l2, rfl, by simpa using hk, fun j hj => ?_, he⟩
        rcases List.mem_cons.1 hj with rfl | hj
        · exact hi
        · simpa using hl1 j hj
      · refine Or.inr ⟨fun j hj => ?_, he⟩
        rcases List.mem_cons.1 hj with rfl | hj
        · exact hi
        · simpa using hl j hj

theorem State.mem_sitesFrom (s : State) (n : Nat) (i : Fin 8) :
    i ∈ s.sitesFrom n ↔ n ≤ i.val ∧ i.val < s.sites.count := by
  simp [State.sitesFrom, mem_allEight]

theorem State.sitesFrom_pairwise (s : State) (n : Nat) : (s.sitesFrom n).Pairwise (· < ·) :=
  List.Pairwise.filter _ (by decide)

theorem State.sitesFrom_nodup (s : State) (n : Nat) : (s.sitesFrom n).Nodup :=
  (s.sitesFrom_pairwise n).imp fun h => h.ne

/-- The scan from a next site finds the first ACTIVE configured site at or after it; the sites it passes over are those
between. -/
theorem State.scan_found {s : State} {n : Nat} {j : Fin 8} (hn : n ≤ j.val) (hc : j.val < s.sites.count)
    (ha : s.siteState j = .active) (hfirst : ∀ k : Fin 8, n ≤ k.val → k.val < j.val → s.siteState k ≠ .active) :
    ∃ l : List (Fin 8), l.Nodup ∧ (∀ k, k ∈ l ↔ n ≤ k.val ∧ k.val < j.val) ∧
      scanSites (s.sitesFrom n) s = (l.foldl State.passOver s, some j) := by
  have hpw := s.sitesFrom_pairwise n
  have hmem := s.mem_sitesFrom n
  rcases scanSites_cases (s.sitesFrom n) s with ⟨l1, i, l2, hl, hi, hl1, he⟩ | ⟨hl, -⟩
  · rw [hl] at hpw
    obtain ⟨hp1, hp2, hp12⟩ := List.pairwise_append.1 hpw
    rw [List.pairwise_cons] at hp2
    have hij : i = j := by
      have hj : j ∈ l1 ++ i :: l2 := by rw [← hl, hmem]; exact ⟨hn, hc⟩
      rcases List.mem_append.1 hj with hj | hj
      · exact absurd ha (hl1 j hj)
      · rcases List.mem_cons.1 hj with hj | hj
        · exact hj.symm
        · have hi' : i ∈ s.sitesFrom n := by rw [hl]; simp
          exact absurd hi (hfirst i ((hmem i).1 hi').1 (hp2.1 j hj))
    subst hij
    refine ⟨l1, hp1.imp fun h => h.ne, fun k => ⟨fun hk => ?_, fun ⟨hnk, hki⟩ => ?_⟩, he⟩
    · have hk' : k ∈ s.sitesFrom n := by rw [hl]; simp [hk]
      exact ⟨((hmem k).1 hk').1, hp12 k hk i (by simp)⟩
    · have hk' : k ∈ l1 ++ i :: l2 := by rw [← hl, hmem]; exact ⟨hnk, hki.trans hc⟩
      rcases List.mem_append.1 hk' with hk' | hk'
      · exact hk'
      · rcases List.mem_cons.1 hk' with rfl | hk'
        · exact absurd hki (Nat.lt_irrefl _)
        · exact absurd hki (Nat.not_lt.2 (Fin.le_def.1 (hp2.1 k hk').le))
  · exact absurd ha (hl j ((hmem j).2 ⟨hn, hc⟩))

/-! ## How many makings are left -/

/-- The most step instances that some records can give from a next site on: one for a COMMON record, one for each site
number from the next site on for a SITE record. -/
def makingsOf : List StepRecord → Nat → Nat
  | [], _ => 0
  | r :: rs, n => (match r.scope with | .common => 1 | .site => 8 - n) + makingsOf rs 0

theorem makingsOf_le (rs : List StepRecord) (n : Nat) : makingsOf rs n ≤ 8 * rs.length := by
  induction rs generalizing n with
  | nil => exact le_refl _
  | cons r rs ih =>
    have h := ih 0
    unfold makingsOf
    rw [List.length_cons]
    cases r.scope <;> simp only <;> omega

/-- The most makings that a bank ahead of the fetch can still give, its end included. -/
def Bank.makingsAhead (b : Bank) : Nat := if b.state = .armed then makingsOf b.records 0 + 1 else 0

/-- The most makings the fetch can still make: those of the records before it, the end of its bank, and those of the
other bank where it is ARMED. -/
def State.makingsLeft (s : State) : Nat :=
  match s.disp.fetch with
  | .reading w i n =>
    makingsOf ((s.plan.get w).records.drop i) n + 1 + (s.plan.get (otherBank w)).makingsAhead
  | .idle => 0
  | .starved _ => 0
  | .atEnd _ => 0
  | .stopped _ => 0

theorem State.makingsLeft_reading {s : State} {w : BankId} {i n : Nat} (h : s.disp.fetch = .reading w i n) :
    s.makingsLeft = makingsOf ((s.plan.get w).records.drop i) n + 1 + (s.plan.get (otherBank w)).makingsAhead := by
  unfold State.makingsLeft; rw [h]

theorem State.makingsLeft_le (s : State) : s.makingsLeft ≤ s.fillFuel := by
  unfold State.makingsLeft State.fillFuel
  split
  next w i n _ =>
    have h1 := makingsOf_le ((s.plan.get w).records.drop i) n
    have h2 : ((s.plan.get w).records.drop i).length ≤ (s.plan.get w).records.length := by simp
    have h3 : (s.plan.get (otherBank w)).makingsAhead ≤ 8 * (s.plan.get (otherBank w)).records.length + 1 := by
      unfold Bank.makingsAhead
      split
      · exact Nat.succ_le_succ (makingsOf_le _ 0)
      · exact Nat.zero_le _
    cases w <;> simp only [otherBank, Plan.get] at h1 h2 h3 ⊢ <;> omega
  all_goals omega

theorem Bank.makingsAhead_descends {x y : Bank} (h : x.descends y) : y.makingsAhead ≤ x.makingsAhead := by
  obtain ⟨hs, hr⟩ := h
  unfold Bank.makingsAhead
  rcases hs with hs | hs
  · rw [hs]
    split
    · rcases hr with hr | hr
      · rw [hr]
      · rw [hr]; exact Nat.succ_le_succ (Nat.zero_le _)
    · exact le_refl _
  · rw [if_neg (by rw [hs]; decide)]
    exact Nat.zero_le _

theorem Fetch.halted_ne_reading (f : Fetch) (w : BankId) (i n : Nat) : f.halted ≠ .reading w i n := by
  cases f <;> simp [Fetch.halted]

/-- The close of an event leaves no more makings than there were. -/
theorem State.Evolves.makingsLeft_le {s t : State} (h : s.Evolves t) : t.makingsLeft ≤ s.makingsLeft := by
  cases hf : t.disp.fetch with
  | reading w i n =>
    have hs : s.disp.fetch = .reading w i n := by
      rcases h.fetch with he | he
      · rw [← he, hf]
      · exact absurd (he ▸ hf) (Fetch.halted_ne_reading _ w i n)
    rw [State.makingsLeft_reading hf, State.makingsLeft_reading hs]
    have h1 := Bank.makingsAhead_descends (h.plan (otherBank w))
    have h2 : makingsOf ((t.plan.get w).records.drop i) n ≤ makingsOf ((s.plan.get w).records.drop i) n := by
      rcases (h.plan w).2 with hr | hr
      · rw [hr]
      · rw [hr, List.drop_nil]; exact Nat.zero_le _
    omega
  | idle | starved _ | atEnd _ | stopped _ => unfold State.makingsLeft; rw [hf]; exact Nat.zero_le _

end Sys2Proof.Machine
end

section
/-! SUPPORT. One making of the fetch (R27 to R30) and the filling of the window (R26): what a making leaves, that fewer are
left after it, and that the filling is makings one after another until none can be made. -/

namespace Sys2Proof.Machine

/-! ## One making -/

/-- The state with a step's entry appended for the panel or a site. -/
def State.appendFor (s : State) (w : BankId) (i : Nat) (r : StepRecord) (site : Site) : State :=
  s.appendInstance (s.makeInstance w i r site)

/-- A making, record by record: the bank boundary at the records' end; the panel's entry of a COMMON record; the entry of
the site the scan finds; or the next record, where it finds none. -/
theorem makeFrom_cons_common {r : StepRecord} (h : r.scope = .common) (w : BankId) (rs : List StepRecord) (i n : Nat)
    (s : State) :
    makeFrom w (r :: rs) i n s = (s.appendFor w i r .panel).withFetch (.reading w (i + 1) 0) := by
  rw [makeFrom, h]; rfl

theorem makeFrom_cons_found {r : StepRecord} (h : r.scope = .site) {w : BankId} {rs : List StepRecord} {i n : Nat}
    {s t : State} {j : Fin 8} (hs : scanSites (s.sitesFrom n) s = (t, some j)) :
    makeFrom w (r :: rs) i n s = (t.appendFor w i r (.board j)).withFetch (t.nextPos w i j) := by
  rw [makeFrom, h]
  simp only [hs]
  rfl

theorem makeFrom_cons_none {r : StepRecord} (h : r.scope = .site) {w : BankId} {rs : List StepRecord} {i n : Nat}
    {s t : State} (hs : scanSites (s.sitesFrom n) s = (t, none)) :
    makeFrom w (r :: rs) i n s = makeFrom w rs (i + 1) 0 t := by
  rw [makeFrom, h]
  simp only [hs]

theorem State.fetchMake_reading {s : State} {w : BankId} {i n : Nat} (h : s.disp.fetch = .reading w i n) :
    s.fetchMake = makeFrom w ((s.plan.get w).records.drop i) i n s := by
  unfold State.fetchMake; rw [h]

theorem State.canMake_iff (s : State) :
    s.canMake = true ↔ s.run.state = .active ∧ s.disp.window.length < 16 ∧ ∃ w i n, s.disp.fetch = .reading w i n := by
  have hlen : decide (s.disp.window.length < Config.windowSize) = true ↔ s.disp.window.length < 16 := decide_eq_true_iff
  unfold State.canMake
  cases s.disp.fetch <;> simp [State.active_iff, hlen]

theorem State.canMake_of_reading {s : State} {w : BankId} {i n : Nat} (ha : s.run.state = .active)
    (hw : s.disp.window.length < 16) (hf : s.disp.fetch = .reading w i n) : s.canMake = true :=
  s.canMake_iff.2 ⟨ha, hw, w, i, n, hf⟩

theorem State.canMake_of_not_active {s : State} (h : s.run.state ≠ .active) : s.canMake = false := by
  rw [Bool.eq_false_iff, Ne, State.canMake_iff]
  exact fun hc => h hc.1

theorem State.canMake_of_not_reading {s : State} (h : ∀ w i n, s.disp.fetch ≠ .reading w i n) : s.canMake = false := by
  rw [Bool.eq_false_iff, Ne, State.canMake_iff]
  rintro ⟨-, -, w, i, n, hc⟩
  exact h w i n hc

theorem exec_fetchAppend (s : State) :
    exec .fetchAppend s = .next (if s.begin.canMake then s.begin.fetchMake.closeEvent else s.begin).transmit := rfl

/-- The bank boundary leaves the fetch at END, STARVED, or at the first record of the other bank, which was ARMED, with
the bank passed no longer ARMED (R29). -/
theorem State.passLast_fetch (s : State) (w : BankId) :
    (s.passLast w).disp.fetch = .atEnd w ∨ (s.passLast w).disp.fetch = .starved w := by
  unfold State.passLast
  split
  · exact Or.inl rfl
  · exact Or.inr rfl

theorem State.drainBank_get (s : State) (w v : BankId) :
    (v ≠ w → (s.drainBank w).plan.get v = s.plan.get v) ∧ ((s.drainBank w).plan.get w).state ≠ .armed := by
  set t := s.withPlan (s.plan.set w { s.plan.get w with state := .draining }) with ht
  have hs : s.drainBank w = t.drainIfDone w := rfl
  by_cases h : t.run.state = .active ∧ (t.plan.get w).state = .draining ∧ (t.plan.get w).live = 0
  · rw [hs, State.drainIfDone_pos h]
    exact ⟨fun hv => by simp [State.emptyBank, t, hv], by simp [State.emptyBank, Bank.reset]⟩
  · rw [hs, State.drainIfDone_neg h]
    exact ⟨fun hv => by simp [t, hv], by simp [t]⟩

theorem otherBank_ne (w : BankId) : otherBank w ≠ w := by cases w <;> decide

theorem otherBank_otherBank (w : BankId) : otherBank (otherBank w) = w := by cases w <;> rfl

theorem State.passEnd_cases (s : State) (w : BankId) :
    s.passEnd w = s.passLast w ∨
      ((s.plan.get (otherBank w)).state = .armed ∧
        (s.passEnd w = ((s.drainBank w).activate (otherBank w)).passLast (otherBank w) ∨
          s.passEnd w = (s.drainBank w).activate (otherBank w))) := by
  unfold State.passEnd
  split
  · exact Or.inl rfl
  · split
    next h =>
      simp only
      split
      · exact Or.inr ⟨h, Or.inl rfl⟩
      · exact Or.inr ⟨h, Or.inr rfl⟩
    · exact Or.inl rfl

theorem State.makingsLeft_of_ended {s : State} {w : BankId} (h : s.disp.fetch = .atEnd w ∨ s.disp.fetch = .starved w) :
    s.makingsLeft = 0 := by
  unfold State.makingsLeft
  rcases h with h | h <;> rw [h]

/-- After the bank boundary the makings left are at most those of the bank entered. -/
theorem State.makingsLeft_passEnd (s : State) (w : BankId) :
    (s.passEnd w).makingsLeft ≤ (s.plan.get (otherBank w)).makingsAhead := by
  rcases s.passEnd_cases w with h | ⟨harm, h | h⟩ <;> rw [h]
  · rw [State.makingsLeft_of_ended (s.passLast_fetch w)]
    exact Nat.zero_le _
  · rw [State.makingsLeft_of_ended (State.passLast_fetch _ (otherBank w))]
    exact Nat.zero_le _
  · obtain ⟨hother, hw⟩ := s.drainBank_get w (otherBank w)
    have hfetch : ((s.drainBank w).activate (otherBank w)).disp.fetch = .reading (otherBank w) 0 0 := rfl
    rw [State.makingsLeft_reading hfetch, otherBank_otherBank]
    have h1 : (((s.drainBank w).activate (otherBank w)).plan.get (otherBank w)).records =
        (s.plan.get (otherBank w)).records := by
      rw [← hother (otherBank_ne w)]
      simp [State.activate, State.withFetch]
    have h2 : ((s.drainBank w).activate (otherBank w)).plan.get w = (s.drainBank w).plan.get w := by
      simp [State.activate, State.withFetch, (otherBank_ne w).symm]
    rw [h1, h2]
    unfold Bank.makingsAhead
    rw [if_neg hw, if_pos harm, List.drop_zero]

/-- An entry appended: the bank's live count and the young end of the window, and an examination due. -/
theorem State.appendFor_get (s : State) (w v : BankId) (i : Nat) (r : StepRecord) (site : Site) :
    ((s.appendFor w i r site).plan.get v).records = (s.plan.get v).records ∧
      ((s.appendFor w i r site).plan.get v).state = (s.plan.get v).state := by
  have h : (s.appendFor w i r site).plan = s.plan.set w { s.plan.get w with live := (s.plan.get w).live + 1 } := rfl
  rw [h, Plan.get_set]
  split
  next hv => subst hv; exact ⟨rfl, rfl⟩
  next => exact ⟨rfl, rfl⟩

/-- After an entry appended, with the fetch at a position of the same bank, the makings left are those from there. -/
theorem State.makingsLeft_appendFor (s : State) (w : BankId) (i k m : Nat) (r : StepRecord) (site : Site) :
    ((s.appendFor w i r site).withFetch (.reading w k m)).makingsLeft =
      makingsOf ((s.plan.get w).records.drop k) m + 1 + (s.plan.get (otherBank w)).makingsAhead := by
  have hf : ((s.appendFor w i r site).withFetch (.reading w k m)).disp.fetch = .reading w k m := rfl
  have h1 := s.appendFor_get w w i r site
  have h2 := s.appendFor_get w (otherBank w) i r site
  rw [State.makingsLeft_reading hf, State.withFetch_plan, h1.1]
  unfold Bank.makingsAhead
  rw [h2.1, h2.2]

theorem scanSites_some_mem {l : List (Fin 8)} {s t : State} {j : Fin 8} (h : scanSites l s = (t, some j)) : j ∈ l := by
  rcases scanSites_cases l s with ⟨l1, i, l2, rfl, -, -, he⟩ | ⟨-, he⟩
  · rw [h] at he; cases he; simp
  · rw [h] at he; cases he

theorem scanSites_plan_eq {l : List (Fin 8)} {s t : State} {j : Option (Fin 8)} (h : scanSites l s = (t, j)) :
    t.plan = s.plan := by
  have := scanSites_plan l s
  rwa [h] at this

/-- A making leaves fewer makings than there were. -/
theorem makeFrom_makingsLeft (w : BankId) (rs : List StepRecord) (i n : Nat) (s : State)
    (h : (s.plan.get w).records.drop i = rs) :
    (makeFrom w rs i n s).makingsLeft ≤ makingsOf rs n + (s.plan.get (otherBank w)).makingsAhead := by
  induction rs generalizing i n s with
  | nil => exact (s.makingsLeft_passEnd w).trans (Nat.le_add_left _ _)
  | cons r rs ih =>
    have hdrop : (s.plan.get w).records.drop (i + 1) = rs := by
      rw [← List.tail_drop, h, List.tail_cons]
    cases hr : r.scope with
    | common =>
      rw [makeFrom_cons_common hr, State.makingsLeft_appendFor, hdrop]
      simp only [makingsOf, hr]
      omega
    | site =>
      rcases hs : scanSites (s.sitesFrom n) s with ⟨t, _ | j⟩
      · have hplan := scanSites_plan_eq hs
        have := ih (i + 1) 0 t (by rw [hplan]; exact hdrop)
        rw [hplan] at this
        rw [makeFrom_cons_none hr hs]
        simp only [makingsOf, hr]
        omega
      · have hplan := scanSites_plan_eq hs
        have hj := ((s.mem_sitesFrom n j).1 (scanSites_some_mem hs)).1
        have hj8 := j.isLt
        rw [makeFrom_cons_found hr hs]
        unfold State.nextPos
        split <;> rw [State.makingsLeft_appendFor, hplan] <;> simp only [h, hdrop, makingsOf, hr] <;> omega

theorem State.makingsLeft_fetchMake {s : State} (h : s.canMake = true) : s.fetchMake.makingsLeft < s.makingsLeft := by
  obtain ⟨-, -, w, i, n, hf⟩ := s.canMake_iff.1 h
  rw [State.fetchMake_reading hf, State.makingsLeft_reading hf]
  have := makeFrom_makingsLeft w _ i n s rfl
  omega

/-! ## Filling the window (R26) -/

/-- One making closed by its examination. -/
def State.make (s : State) : State := s.fetchMake.closeEvent

theorem State.makingsLeft_make {s : State} (h : s.canMake = true) : s.make.makingsLeft < s.makingsLeft :=
  lt_of_le_of_lt (State.evolves_closeEvent _).makingsLeft_le (State.makingsLeft_fetchMake h)

/-- Enough makings, and the filling ends where none can be made. -/
theorem fillLoop_iterate (fuel : Nat) (s : State) (hm : s.makingsLeft ≤ fuel) :
    ∃ n, fillLoop fuel s = State.make^[n] s ∧ (∀ k, k < n → (State.make^[k] s).canMake = true) ∧
      (fillLoop fuel s).canMake = false := by
  induction fuel generalizing s with
  | zero =>
    refine ⟨0, rfl, fun k hk => absurd hk (Nat.not_lt_zero k), ?_⟩
    rw [Bool.eq_false_iff]
    intro hc
    have := State.makingsLeft_make (s := s) hc
    omega
  | succ fuel ih =>
    unfold fillLoop
    cases hc : s.canMake
    · exact ⟨0, rfl, fun k hk => absurd hk (Nat.not_lt_zero k), hc⟩
    · have hlt := State.makingsLeft_make hc
      obtain ⟨n, hn, hk, hend⟩ := ih s.make (by omega)
      refine ⟨n + 1, hn, fun k hkn => ?_, hend⟩
      cases k with
      | zero => exact hc
      | succ k => exact hk k (Nat.lt_of_succ_lt_succ hkn)

theorem fillLoop_of_not_canMake {s : State} (h : s.canMake = false) (fuel : Nat) : fillLoop fuel s = s := by
  cases fuel with
  | zero => rfl
  | succ n => unfold fillLoop; rw [h]; rfl

/-- Where no making can be made the filling does nothing. -/
theorem State.fill_of_not_canMake {s : State} (h : s.canMake = false) : s.fill = s :=
  fillLoop_of_not_canMake h _

/-- A relation kept by every making is kept by the filling. -/
theorem State.fill_rel {R : State → State → Prop} (refl : ∀ s, R s s) (trans : ∀ {s t u}, R s t → R t u → R s u)
    (step : ∀ s : State, s.canMake = true → R s s.make) (s : State) : R s s.fill := by
  have hloop : ∀ (fuel : Nat) (t : State), R t (fillLoop fuel t) := by
    intro fuel
    induction fuel with
    | zero => exact refl
    | succ fuel ih =>
      intro t
      unfold fillLoop
      split
      next hc => exact trans (step t hc) (ih _)
      next => exact refl t
  exact hloop _ s

end Sys2Proof.Machine
end

section
/-! SUPPORT. Where the instances are during an examination (R61, R71): an entry's turn takes an entry of the window to an
IDLE channel, or moves none. -/

namespace Sys2Proof.Machine

/-! ## What a channel runs -/

theorem State.instIn_of_chans {s t : State} (h : t.chans = s.chans) (d : Chan) : t.instIn d = s.instIn d := by
  unfold State.instIn State.chan; rw [h]

theorem State.withChan_instIn (s : State) (c d : Chan) (x : Channel) :
    (s.withChan c x).instIn d = if d = c then x.running.map Running.inst else s.instIn d := by
  unfold State.instIn
  rw [State.withChan_chan]
  split <;> rfl

theorem State.withRunning_instIn {s : State} {c : Chan} {k k' : Running} (h : (s.chan c).running = some k)
    (hi : k'.inst = k.inst) (d : Chan) : (s.withRunning c (some k')).instIn d = s.instIn d := by
  unfold State.withRunning
  rw [State.withChan_instIn]
  split
  next hd => subst hd; simp [State.instIn, h, hi]
  next => rfl

theorem State.setPhase_instIn (s : State) (c d : Chan) (p : Phase) : (s.setPhase c p).instIn d = s.instIn d := by
  unfold State.setPhase
  split
  next k hk => exact State.withRunning_instIn hk (by rfl) d
  next => rfl

theorem State.connectionMade_instIn {s : State} {c : Chan} {k k' : Running} (h : (s.chan c).running = some k)
    (hi : k'.inst = k.inst) (d : Chan) : (s.connectionMade c k').instIn d = s.instIn d := by
  unfold State.connectionMade
  split
  · rw [State.withChan_instIn]
    split
    next hd => subst hd; simp [State.instIn, h, hi]
    next => rfl
  · rw [State.withChan_instIn]
    split
    next hd => subst hd; simp [State.instIn, h, hi]
    next => rfl
  · exact State.withRunning_instIn h (by exact hi) d

theorem State.closePhase_instIn (s : State) (c d : Chan) : (s.closePhase c).instIn d = s.instIn d := by
  unfold State.closePhase
  split
  next => rfl
  next k hk =>
    split
    · exact State.connectionMade_instIn hk (by rfl) d
    · rw [State.instIn_of_chans (State.offer_chans _ _), State.instIn_of_chans (State.closeNodes_chans _ _ _)]
      exact State.withRunning_instIn hk (by rfl) d

theorem State.connectFor_instIn (s : State) (c d : Chan) (i : Instance) : (s.connectFor c i).instIn d = s.instIn d := by
  unfold State.connectFor
  simp only
  split
  · rw [State.closePhase_instIn]
    exact State.instIn_of_chans (by rfl) d
  · rw [State.instIn_of_chans (State.appendEntry_chans _ _ _ _), State.setPhase_instIn]
    exact State.instIn_of_chans (by rfl) d

/-- A dispatch puts what waits in its channel (R83). -/
theorem State.dispatchTo_instIn (s : State) (e : WindowEntry) (c d : Chan) :
    (s.dispatchTo e c).instIn d = if d = c then some e.inst else s.instIn d := by
  unfold State.dispatchTo
  simp only
  rw [State.instIn_of_chans (State.offer_chans _ _), State.connectFor_instIn, State.withChan_instIn]
  rfl

/-! ## The chosen channel -/

theorem bestOf_mem (reuse : Chan → Nat) (c : Chan) (cs : List Chan) : bestOf reuse c cs ∈ c :: cs := by
  induction cs generalizing c with
  | nil => simp [bestOf]
  | cons d ds ih =>
    unfold bestOf
    split
    · exact List.mem_cons_of_mem _ (ih d)
    · rcases List.mem_cons.1 (ih c) with h | h
      · rw [h]; simp
      · exact List.mem_cons_of_mem _ (List.mem_cons_of_mem _ h)

/-- The chosen channel is IDLE (R68). -/
theorem State.choose_idle {s : State} {i : Instance} {c : Chan} (h : s.choose i = some c) :
    (s.chan c).running = none := by
  have hmem : c ∈ s.candidates := by
    unfold State.choose at h
    split at h
    next => cases h
    next c' cs hc =>
      obtain rfl := Option.some.inj h
      rw [hc]
      exact bestOf_mem _ _ _
  rw [← s.chanIdle_iff c]
  unfold State.candidates at hmem
  rw [List.mem_filter, Bool.and_eq_true] at hmem
  exact hmem.2.2

theorem State.decideEntry_dispatch_idle {s : State} {older : List WindowEntry} {e : WindowEntry} {c : Chan}
    (h : s.decideEntry older e = .dispatch c) : (s.chan c).running = none := by
  have hchan : s.decideChannel e.inst = .dispatch c := by
    unfold State.decideEntry at h
    split at h
    · cases h
    · split at h
      · cases h
      · split at h
        · cases h
        · split at h
          · cases h
          · exact h
  unfold State.decideChannel at hchan
  split at hchan
  next => cases hchan
  next d hd =>
    split at hchan
    · split at hchan <;> cases hchan
    · split at hchan
      · cases hchan
      · cases hchan
        exact State.choose_idle hd

/-! ## A turn and an examination -/

theorem State.markEntry_insts (s : State) (k : BankId × Nat × Site) (why : Blocked) (recalled : List Node) :
    (s.markEntry k why recalled).disp.window.map WindowEntry.inst = s.disp.window.map WindowEntry.inst := by
  rw [State.markEntry, State.withWindow_disp, List.map_map]
  refine List.map_congr_left fun e _ => ?_
  rw [Function.comp_apply]
  split <;> rfl

/-- A calm turn moves none of the instances, or takes an entry of the window to an IDLE channel. -/
theorem State.examineEntry_moves {s : State} (h : s.turnsCalm) (k : BankId × Nat × Site) :
    ((s.examineEntry k).disp.window.map WindowEntry.inst = s.disp.window.map WindowEntry.inst ∧
        ∀ d, (s.examineEntry k).instIn d = s.instIn d) ∨
      ∃ e ∈ s.disp.window, ∃ c, s.instIn c = none ∧
        (s.examineEntry k).disp.window = s.disp.window.filter (fun x => !(decide (x.inst.key = e.inst.key))) ∧
        ∀ d, (s.examineEntry k).instIn d = if d = c then some e.inst else s.instIn d := by
  rcases State.examineEntry_calm_cases h k with hx | ⟨why, hx⟩ | ⟨hp, e, he, ⟨owners, hx⟩ | ⟨c, hd, hx⟩⟩ <;> rw [hx]
  · exact Or.inl ⟨rfl, fun _ => rfl⟩
  · exact Or.inl ⟨s.markEntry_insts k why [], fun _ => rfl⟩
  · refine Or.inl ⟨?_, fun d => State.instIn_of_chans (State.issueRecall_chans _ _ _) d⟩
    rw [(State.issueRecall_passive hp e owners).2, State.markEntry_insts]
  · refine Or.inr ⟨e, (State.entryOf_some he).1, c, ?_, ?_, fun d => s.dispatchTo_instIn e c d⟩
    · unfold State.instIn
      rw [State.decideEntry_dispatch_idle hd]
      rfl
    · rw [(State.dispatchTo_passive hp e c).2]

/-- A relation kept by every turn of calm walks is kept by the examination. -/
theorem examined_rel {R : State → State → Prop} (refl : ∀ s, R s s) (trans : ∀ {s t u}, R s t → R t u → R s u)
    (h0 : ∀ s : State, R s (s.withExamDue false)) (step : ∀ (s : State) k, s.turnsCalm → R s (s.examineEntry k))
    {s t : State} (hx : Examined s t) (h : s.turnsCalm) : R s t := by
  induction hx with
  | last s _ => exact State.walk_rel refl trans h0 step h
  | again s t _ _ ih => exact trans (State.walk_rel refl trans h0 step h) (ih ((State.walk_calm h).turnsCalm h))

/-- `x` is in a channel, or it waits in the window, the only one of its identity there. -/
def State.tracks (x : Instance) (s : State) : Prop :=
  (x ∈ s.disp.window.map WindowEntry.inst ∧ ∀ y ∈ s.disp.window.map WindowEntry.inst, y.key = x.key → y = x) ∨
    ∃ c, s.instIn c = some x

/-- A calm turn does not lose `x`. -/
theorem State.tracks_examineEntry {x : Instance} {s : State} (hx : s.tracks x) (h : s.turnsCalm)
    (k : BankId × Nat × Site) : (s.examineEntry k).tracks x := by
  rcases State.examineEntry_moves h k with ⟨hw, hc⟩ | ⟨e, he, c, hidle, hw, hc⟩
  · unfold State.tracks
    simp only [hw, hc]
    exact hx
  · rcases hx with ⟨hmem, huniq⟩ | ⟨d, hd⟩
    · by_cases hk : x.key = e.inst.key
      · have hex : e.inst = x := huniq _ (List.mem_map_of_mem he) hk.symm
        exact Or.inr ⟨c, by rw [hc, if_pos rfl, hex]⟩
      · obtain ⟨w, hwm, rfl⟩ := List.mem_map.1 hmem
        refine Or.inl ⟨List.mem_map_of_mem ?_, fun y hy => ?_⟩
        · rw [hw]
          exact List.mem_filter.2 ⟨hwm, by simpa using hk⟩
        · obtain ⟨w', hw', rfl⟩ := List.mem_map.1 hy
          rw [hw] at hw'
          exact huniq _ (List.mem_map_of_mem (List.mem_filter.1 hw').1)
    · refine Or.inr ⟨d, ?_⟩
      rw [hc, if_neg, hd]
      rintro rfl
      rw [hidle] at hd
      cases hd

/-- Where the walks are calm the examination does not lose `x`. -/
theorem Examined.tracks {x : Instance} {s t : State} (h : Examined s t) (hcalm : s.turnsCalm) (hx : s.tracks x) :
    t.tracks x :=
  examined_rel (R := fun s t => s.tracks x → t.tracks x) (fun _ => id) (fun f g hs => g (f hs)) (fun _ => id)
    (fun _ k hc hs => State.tracks_examineEntry hs hc k) h hcalm hx

/-- Something waits in the window or is in a channel. -/
def State.busy (s : State) : Prop := s.disp.window ≠ [] ∨ ∃ c, s.instIn c ≠ none

theorem State.busy_examineEntry {s : State} (hs : s.busy) (h : s.turnsCalm) (k : BankId × Nat × Site) :
    (s.examineEntry k).busy := by
  rcases State.examineEntry_moves h k with ⟨hw, hc⟩ | ⟨e, -, c, -, -, hc⟩
  · refine hs.imp (fun hne hnil => hne ?_) fun ⟨c, hb⟩ => ⟨c, by rw [hc]; exact hb⟩
    rw [hnil, List.map_nil] at hw
    exact List.map_eq_nil_iff.1 hw.symm
  · exact Or.inr ⟨c, by rw [hc, if_pos rfl]; exact Option.some_ne_none _⟩

theorem Examined.busy {s t : State} (h : Examined s t) (hcalm : s.turnsCalm) (hs : s.busy) : t.busy :=
  examined_rel (R := fun s t => s.busy → t.busy) (fun _ => id) (fun f g hs => g (f hs)) (fun _ => id)
    (fun _ k hc hs => State.busy_examineEntry hs hc k) h hcalm hs

end Sys2Proof.Machine
end

section
/-! SUPPORT. What a making and the filling of the window keep (R27 to R30): pending notices, the states of the sites and
what waits; and, with the counters frozen, the counters and the results. -/

namespace Sys2Proof.Machine

/-! ## One making -/

/-- What a making keeps, beside the run, the relays, the channels, the results and the counters. -/
structure State.Made (s t : State) : Prop where
  pending : s.pendingKept t
  siteState : ∀ j, t.siteState j = s.siteState j
  skipped : ∀ j, min 65535 (s.sites.entries.get j).skipped ≤ (t.sites.entries.get j).skipped
  sites : (∀ j why, s.siteState j ≠ .retired why) → t.sites = s.sites
  window : ∀ e ∈ t.disp.window, e ∈ s.disp.window ∨ ∀ j, e.inst.site = .board j → s.siteState j = .active
  kept : ∀ e ∈ s.disp.window, e ∈ t.disp.window

theorem State.Made.trans {s t u : State} (h : s.Made t) (g : t.Made u) : s.Made u where
  pending := h.pending.trans g.pending
  siteState := fun j => (g.siteState j).trans (h.siteState j)
  skipped := fun j => by
    have h1 := h.skipped j
    have h2 := g.skipped j
    omega
  sites := fun hs => (g.sites fun j why => by rw [h.siteState]; exact hs j why).trans (h.sites hs)
  window := fun e he => by
    rcases g.window e he with he | he
    · exact h.window e he
    · exact Or.inr fun j hj => (h.siteState j).symm.trans (he j hj)
  kept := fun e he => g.kept e (h.kept e he)

/-- An operation that leaves the sites and the window. -/
theorem State.Made.of_eq {s t : State} (hp : s.pendingKept t) (hs : t.sites = s.sites)
    (hw : t.disp.window = s.disp.window) : s.Made t where
  pending := hp
  siteState := fun j => by unfold State.siteState; rw [hs]
  skipped := fun j => by rw [hs]; exact min_le_right _ _
  sites := fun _ => hs
  window := fun e he => Or.inl (hw ▸ he)
  kept := fun e he => hw ▸ he

theorem State.made_drainBank (s : State) (w : BankId) : s.Made (s.drainBank w) := by
  refine .of_eq ?_ (by simp) (by simp)
  unfold State.drainBank
  set t := s.withPlan (s.plan.set w { s.plan.get w with state := .draining })
  by_cases h : t.run.state = .active ∧ (t.plan.get w).state = .draining ∧ (t.plan.get w).live = 0
  · rw [State.drainIfDone_pos h]
    exact t.pendingKept_raise .bankDone
  · rw [State.drainIfDone_neg h]
    exact t.pendingKept_refl

theorem State.made_passLast (s : State) (w : BankId) : s.Made (s.passLast w) := by
  unfold State.passLast
  split
  · exact (s.made_drainBank w).trans (.of_eq (State.pendingKept_refl _) rfl rfl)
  · exact (s.made_drainBank w).trans (.of_eq (State.pendingKept_raise ((s.drainBank w).withDisp _) .starved) rfl rfl)

theorem State.made_passEnd (s : State) (w : BankId) : s.Made (s.passEnd w) := by
  have hact : s.Made ((s.drainBank w).activate (otherBank w)) :=
    (s.made_drainBank w).trans (.of_eq (State.pendingKept_refl _) rfl rfl)
  rcases s.passEnd_cases w with h | ⟨-, h | h⟩ <;> rw [h]
  · exact s.made_passLast w
  · exact hact.trans (State.made_passLast _ _)
  · exact hact

theorem State.made_passOver (s : State) (i : Fin 8) : s.Made (s.passOver i) where
  pending := State.pendingKept_of_eq (by rw [s.passOver_eq i]; rfl)
  siteState := s.passOver_siteState i
  skipped := fun j => by
    rw [State.passOver_get]
    split
    · exact min_le_min_left _ (Nat.le_succ _)
    · exact min_le_right _ _
  sites := fun h => by rw [State.passOver_of_not_retired (h i)]
  window := fun e he => Or.inl (by rw [s.passOver_eq i] at he; exact he)
  kept := fun e he => by rw [s.passOver_eq i]; exact he

theorem State.made_scanSites (l : List (Fin 8)) (s : State) : s.Made (scanSites l s).1 := by
  have hfold : ∀ (l : List (Fin 8)) (t : State), t.Made (l.foldl State.passOver t) := by
    intro l
    induction l with
    | nil => exact fun t => .of_eq t.pendingKept_refl rfl rfl
    | cons i l ih => exact fun t => (t.made_passOver i).trans (ih _)
  rcases scanSites_cases l s with ⟨l1, i, l2, -, -, -, he⟩ | ⟨-, he⟩ <;> rw [he] <;> exact hfold _ s

/-- An entry appended for the panel or an ACTIVE site. -/
theorem State.made_appendFor {s : State} {site : Site} (h : ∀ j, site = .board j → s.siteState j = .active) (w : BankId)
    (i : Nat) (r : StepRecord) (f : Fetch) : s.Made ((s.appendFor w i r site).withFetch f) where
  pending := s.pendingKept_refl
  siteState := fun _ => rfl
  skipped := fun _ => min_le_right _ _
  sites := fun _ => rfl
  window := fun e he => by
    rcases List.mem_append.1 he with he | he
    · exact Or.inl he
    · obtain rfl := List.mem_singleton.1 he
      exact Or.inr h
  kept := fun e he => List.mem_append_left _ he

theorem scanSites_active {l : List (Fin 8)} {s t : State} {j : Fin 8} (h : scanSites l s = (t, some j)) :
    t.siteState j = .active := by
  rcases scanSites_cases l s with ⟨l1, i, l2, -, hi, -, he⟩ | ⟨-, he⟩ <;> rw [h] at he <;> cases he
  rw [foldl_passOver_siteState]
  exact hi

theorem makeFrom_made (w : BankId) (rs : List StepRecord) (i n : Nat) (s : State) : s.Made (makeFrom w rs i n s) := by
  induction rs generalizing i n s with
  | nil => exact s.made_passEnd w
  | cons r rs ih =>
    cases hr : r.scope with
    | common =>
      rw [makeFrom_cons_common hr]
      exact State.made_appendFor (fun j hj => by cases hj) w i r _
    | site =>
      have hscan := State.made_scanSites (s.sitesFrom n) s
      rcases hs : scanSites (s.sitesFrom n) s with ⟨t, _ | j⟩ <;> rw [hs] at hscan
      · rw [makeFrom_cons_none hr hs]
        exact hscan.trans (ih (i + 1) 0 t)
      · rw [makeFrom_cons_found hr hs]
        refine hscan.trans (State.made_appendFor (fun k hk => ?_) w i r _)
        cases hk
        exact scanSites_active hs

theorem State.made_fetchMake {s : State} (h : s.canMake = true) : s.Made s.fetchMake := by
  obtain ⟨-, -, w, i, n, hf⟩ := s.canMake_iff.1 h
  rw [State.fetchMake_reading hf]
  exact makeFrom_made w _ i n s

/-- A making leaves the fetch at a place of a bank. -/
theorem makeFrom_fetch (w : BankId) (rs : List StepRecord) (i n : Nat) (s : State) :
    (makeFrom w rs i n s).disp.fetch ≠ .idle := by
  induction rs generalizing i n s with
  | nil =>
    have hlast : ∀ (t : State) (v : BankId), (t.passLast v).disp.fetch ≠ .idle := fun t v h => by
      rcases t.passLast_fetch v with hv | hv <;> rw [hv] at h <;> cases h
    change (s.passEnd w).disp.fetch ≠ .idle
    rcases s.passEnd_cases w with h | ⟨-, h | h⟩ <;> rw [h]
    · exact hlast s w
    · exact hlast _ _
    · exact fun h => by cases h
  | cons r rs ih =>
    cases hr : r.scope with
    | common => rw [makeFrom_cons_common hr]; exact fun h => by cases h
    | site =>
      rcases hs : scanSites (s.sitesFrom n) s with ⟨t, _ | j⟩
      · rw [makeFrom_cons_none hr hs]; exact ih _ _ _
      · rw [makeFrom_cons_found hr hs]
        unfold State.nextPos
        split <;> exact fun h => by cases h

/-! ## The close of an event that takes calm walks -/

/-- Where no halt is asked for and the walks are calm, the close of an event is a calm change and the completion test. -/
theorem State.closeEvent_calm {s : State} (hask : s.run.haltAsked = false) (hcalm : s.turnsCalm) :
    ∃ u, s.Calm u ∧ (s.busy → u.busy) ∧ s.closeEvent = u.testDone := by
  by_cases h : s.disp.examDue = false ∨ s.run.state ≠ .active
  · exact ⟨_, s.calm_withExamDue false, id, State.closeEvent_of_quiet hask h⟩
  · obtain ⟨hexam, hact⟩ := not_or.1 h
    obtain ⟨u, hx, hc, he⟩ := State.closeEvent_examined (Or.inl hcalm) hask (not_not.1 hact)
    rw [State.withExamDue_self (Bool.eq_true_of_not_eq_false hexam)] at he
    exact ⟨u, hc, fun hb => hx.busy hcalm hb, he⟩

theorem State.not_completed_of_busy {s : State} (h : s.busy) : s.completed = false := by
  rw [Bool.eq_false_iff, Ne, State.completed_iff]
  rintro ⟨-, -, hw, hc⟩
  rcases h with h | ⟨c, h⟩
  · exact h hw
  · exact h (by unfold State.instIn; rw [hc c]; rfl)

/-- Such a close completes no run in which something waits or is in a channel. -/
theorem State.closeEvent_busy {s : State} (hask : s.run.haltAsked = false) (hcalm : s.turnsCalm) (hb : s.busy) :
    s.Calm s.closeEvent ∧ s.closeEvent.busy := by
  obtain ⟨u, hc, hbusy, he⟩ := State.closeEvent_calm hask hcalm
  rw [he, State.testDone_of_not (State.not_completed_of_busy (hbusy hb))]
  exact ⟨hc, hbusy hb⟩

/-! ## Makings with the counters frozen -/

/-- What stands through closes and makings with the counters frozen and no halt asked for. -/
structure State.Still (s t : State) : Prop where
  counters : t.counters = s.counters
  results : t.results = s.results
  haltAsked : t.run.haltAsked = false

/-- The counters and the results stand through the close of an event with the counters frozen and no halt asked for. -/
theorem State.still_closeEvent {s : State} (hf : s.countersStill) (hask : s.run.haltAsked = false) :
    s.Still s.closeEvent := by
  obtain ⟨u, hc, -, he⟩ := State.closeEvent_calm hask (Or.inl (Or.inl hf))
  have hrun : u.run.haltAsked = false := by rw [hc.run]; exact hask
  rw [he]
  refine ⟨(State.testDone_counters u).trans (hc.still hf), (State.testDone_results u).trans hc.results, ?_⟩
  cases h : u.completed
  · rw [State.testDone_of_not h]; exact hrun
  · rw [State.testDone_of_completed_eq h]; exact hrun

/-- The filling of the window with the counters frozen and no halt asked for. -/
theorem State.still_fill {s : State} (hf : s.countersStill) (hask : s.run.haltAsked = false) : s.Still s.fill := by
  refine State.fill_rel (R := fun s t => s.countersStill → s.run.haltAsked = false → s.Still t)
    (fun s _ h => ⟨rfl, rfl, h⟩) (fun {s t u} h g hf hask => ?_) (fun t _ hf hask => ?_) s hf hask
  · obtain ⟨hc, hr, ha⟩ := h hf hask
    obtain ⟨hc', hr', ha'⟩ := g (by unfold State.countersStill; rw [hc]; exact hf) ha
    exact ⟨hc'.trans hc, hr'.trans hr, ha'⟩
  · have hm : t.fetchMake.Still t.make :=
      State.still_closeEvent (by unfold State.countersStill; rw [State.fetchMake_counters]; exact hf)
        (by rw [State.fetchMake_run]; exact hask)
    obtain ⟨hc, hr, ha⟩ := hm
    exact ⟨hc.trans t.fetchMake_counters, hr.trans t.fetchMake_results, ha⟩

/-! ## Notices, and a site that is not ACTIVE, through makings -/

/-- Pending notices stay through the close of an event and the filling after it. -/
theorem State.pendingKept_fill (s : State) : s.pendingKept s.closeEvent.fill := by
  refine (State.evolves_closeEvent s).pending.trans (State.fill_rel (R := State.pendingKept) State.pendingKept_refl
    State.pendingKept.trans (fun t hc => ?_) s.closeEvent)
  exact (State.made_fetchMake hc).pending.trans (State.evolves_closeEvent _).pending

/-- What closes and makings keep of a site that is not ACTIVE: pending notices, its state, its skipped count as a lower
bound, and the window free of it. -/
structure State.KeepsOut (j : Fin 8) (s t : State) : Prop where
  pending : s.pendingKept t
  siteState : t.siteState j = s.siteState j
  skipped : min 65535 (s.sites.entries.get j).skipped ≤ (t.sites.entries.get j).skipped
  window : (∀ e ∈ s.disp.window, e.inst.site ≠ .board j) → ∀ e ∈ t.disp.window, e.inst.site ≠ .board j

theorem State.KeepsOut.trans {j : Fin 8} {s t u : State} (h : s.KeepsOut j t) (g : t.KeepsOut j u) : s.KeepsOut j u where
  pending := h.pending.trans g.pending
  siteState := g.siteState.trans h.siteState
  skipped := by
    have h1 := h.skipped
    have h2 := g.skipped
    omega
  window := fun hs => g.window (h.window hs)

theorem State.Evolves.keepsOut {j : Fin 8} {s t : State} (h : s.Evolves t) (hj : s.siteState j ≠ .active) :
    s.KeepsOut j t where
  pending := h.pending
  siteState := by unfold State.siteState; rw [h.sites j hj]
  skipped := by rw [h.sites j hj]; exact min_le_right _ _
  window := fun hs e he => by
    obtain ⟨d, hd, hde⟩ := h.window e he
    rw [← hde]
    exact hs d hd

theorem State.Made.keepsOut {j : Fin 8} {s t : State} (h : s.Made t) (hj : s.siteState j ≠ .active) :
    s.KeepsOut j t where
  pending := h.pending
  siteState := h.siteState j
  skipped := h.skipped j
  window := fun hs e he hsite => by
    rcases h.window e he with hmem | hact
    · exact hs e hmem hsite
    · exact hj (hact j hsite)

theorem State.keepsOut_fill {j : Fin 8} {s : State} (h : s.siteState j ≠ .active) : s.KeepsOut j s.fill := by
  refine State.fill_rel (R := fun s t => s.siteState j ≠ .active → s.KeepsOut j t)
    (fun s _ => ⟨s.pendingKept_refl, rfl, min_le_right _ _, id⟩) (fun h g hs => ?_) (fun t hc hs => ?_) s h
  · have hst := h hs
    exact hst.trans (g (by rw [hst.siteState]; exact hs))
  · have hm := (State.made_fetchMake hc).keepsOut hs
    exact hm.trans ((State.evolves_closeEvent _).keepsOut (by rw [hm.siteState]; exact hs))

end Sys2Proof.Machine
end

section
/-! SUPPORT. A request on an open link: a refusal, and an acceptance with its reply (R168). -/

namespace Sys2Proof.Machine

/-- A request that is refused changes nothing (R168). -/
theorem exec_refused {s : State} {r : Request} {tag : Byte} {p : List Byte} {code : Status} (hp : p.length ≤ 1024)
    (h : s.linkOpen) (hr : handle r p s.begin = refuse s.begin code) :
    exec (r.command tag p) s = .next (s.begin.replying (requestCode r + 0x80) tag code []) := by
  obtain ⟨hslot, hwait, hsend, hdue, hfault⟩ := id h
  rw [exec_served r tag p hp h (by rw [hr]; exact hsend) (by rw [hr]; exact hwait) (by rw [hr]; exact hdue), hr]
  rfl

/-- A request that is accepted and changes nothing. -/
theorem exec_unchanged {s : State} {r : Request} {tag : Byte} {p body : List Byte} (hp : p.length ≤ 1024)
    (h : s.linkOpen) (hr : handle r p s.begin = accept s.begin body) :
    exec (r.command tag p) s = .next (s.begin.replying (requestCode r + 0x80) tag .ok body) := by
  obtain ⟨hslot, hwait, hsend, hdue, hfault⟩ := id h
  rw [exec_served r tag p hp h (by rw [hr]; exact hsend) (by rw [hr]; exact hwait) (by rw [hr]; exact hdue), hr]
  rfl

/-- A request that is accepted: its effect, and its reply on the link (R168). -/
theorem exec_accepted {s u : State} {r : Request} {tag : Byte} {p : List Byte} {body : List Byte}
    (hp : p.length ≤ 1024) (h : s.linkOpen) (hr : handle r p s.begin = accept u body) :
    ∃ t, exec (r.command tag p) s = .next t ∧ t = u.withLink t.link ∧
      t.link.pendingSet = u.link.pendingSet ∧ t.hasReply (requestCode r + 0x80) tag .ok body none := by
  obtain ⟨hslot, hwait, hsend, hdue, hfault⟩ := id h
  obtain ⟨l, hexec, hl⟩ := exec_served_link (s := s) r tag p hp
    ⟨hslot, hwait, fun o ho => by rw [hsend] at ho; cases ho⟩ (Or.inl hfault)
  obtain ⟨hreply, -, -, hpend⟩ :=
    State.transmit_hasReply (handle r p s.begin).state (handle r p s.begin) (requestCode r + 0x80) tag
  rw [hr] at hexec hreply hpend hl
  refine ⟨_, hexec, rfl, ?_, ?_⟩
  · rw [State.withLink_link, ← hl]; exact hpend
  · unfold State.hasReply at hreply ⊢
    rw [State.withLink_link, ← hl]
    exact hreply

theorem noOperand_ne {p : List Byte} (h : p ≠ []) : noOperand p = none := by
  cases p with
  | nil => exact absurd rfl h
  | cons x xs => rfl

end Sys2Proof.Machine
end

section
/-! Sense lines, ABORT_RUN and the occurrences: O55, O32, O53. -/

namespace Sys2Proof.Machine

/-! ## Sense lines -/

theorem exec_senseLineChange (l : SenseLine) (present : Bool) (s : State) :
    exec (.senseLineChange l present) s =
      .next (s.begin.withSense l ((s.begin.sense l).change present s.begin.time)).transmit := by
  rfl

theorem exec_qualificationExpiry (l : SenseLine) (s : State) :
    exec (.qualificationExpiry l) s =
      .next (if (s.begin.sense l).qualified s.begin.time then s.begin.setLatch l else s.begin).transmit := by
  rfl

@[simp] theorem State.begin_sense (s : State) (l : SenseLine) : s.begin.sense l = s.sense l := by cases l <;> rfl

@[simp] theorem State.withSense_link (s : State) (l : SenseLine) (x : Sense) : (s.withSense l x).link = s.link := by
  cases l <;> rfl

theorem Sense.change_eq (x : Sense) (present : Bool) (now : Time) :
    x.change present now =
      if x.present = present then x
      else if present = true then { x with present := true, timer := none }
      else if x.latch = true then { x with present := false, timer := none }
      else { x with present := false, timer := some now } := by
  unfold Sense.change
  by_cases hp : x.present = present
  · rw [if_pos hp, if_pos hp]
  · rw [if_neg hp, if_neg hp]
    cases present <;> cases x.latch <;> rfl

theorem Sense.qualified_iff (x : Sense) (now : Time) :
    x.qualified now = true ↔ ∃ start, x.timer = some start ∧ 2000 ≤ (now - start).toNat := by
  unfold Sense.qualified
  cases x.timer with
  | none => simp
  | some t => simp only [Option.some.injEq, exists_eq_left']; exact decide_eq_true_iff

/-- The state in which a line's latch is set and INTERLOCK raised (R159). -/
def State.latched (s : State) (l : SenseLine) : State :=
  (s.withSense l { s.sense l with timer := none, latch := true }).raise .interlock

theorem State.setLatch_eq (s : State) (l : SenseLine) : s.setLatch l = (s.latched l).halt .interlock := rfl

theorem State.latched_sense (s : State) (l : SenseLine) :
    (s.latched l).sense l = { s.sense l with timer := none, latch := true } := by
  have : (s.latched l).sense l = (s.withSense l { s.sense l with timer := none, latch := true }).sense l := by
    cases l <;> rfl
  rw [this, State.withSense_sense, if_pos rfl]

theorem State.latched_run_state (s : State) (l : SenseLine) : (s.latched l).run.state = s.run.state := by
  cases l <;> rfl

theorem State.latched_relays (s : State) (l : SenseLine) : (s.latched l).relays = s.relays := by
  cases l <;> rfl

theorem State.halt_sense (s : State) (why : HaltReason) (l : SenseLine) : (s.halt why).sense l = s.sense l := by
  cases l
  · exact State.halt_run_vac s why
  · exact State.halt_run_lid s why

theorem State.pendingKept_halt (s : State) (why : HaltReason) : s.pendingKept (s.halt why) := by
  by_cases h : s.run.state = .active
  · exact (State.halt_notices h why).2
  · rw [State.halt_of_not_active h]; exact s.pendingKept_refl

/-- QUALIFICATION_EXPIRY of a qualified line: the latch, INTERLOCK and the halt (R158, R159). -/
theorem qualificationExpiry_due (l : SenseLine) (s : State) {start : Time} (ht : (s.sense l).timer = some start)
    (hq : 2000 ≤ (s.time - start).toNat) :
    exec (.qualificationExpiry l) s = .next ((s.begin.latched l).halt .interlock).transmit := by
  rw [exec_qualificationExpiry, if_pos, State.setLatch_eq]
  rw [State.begin_sense, Sense.qualified_iff]
  exact ⟨start, ht, hq⟩

/-- Settles O55: the line's change by its cases, and the latch with the halt that `haltTaken_halt` describes. -/
theorem senseLinesQualified : Obligations.SenseLinesQualified := by
  unfold Obligations.SenseLinesQualified
  refine ⟨fun l present s hs => ?_, fun l s hs => ⟨fun hno => ?_, fun start ht hq => ?_⟩⟩
  · rw [exec_senseLineChange, State.transmit_settled (by rw [State.withSense_link]; exact hs), State.begin_sense,
      State.begin_time, Sense.change_eq]
  · rw [exec_qualificationExpiry, if_neg, State.transmit_settled (s := s.begin) hs]
    rw [State.begin_sense, Sense.qualified_iff]
    rintro ⟨start, ht, hq⟩
    exact absurd (hno start ht) (Nat.not_lt.2 hq)
  · have hnote : Notice.interlock.isIn (s.begin.latched l).link.pendingSet = true :=
      (State.isIn_raise _ .interlock .interlock).trans (by simp)
    refine ⟨_, qualificationExpiry_due l s ht hq, ?_, ?_, fun ha => ?_, fun ha hwf => ?_, fun ha => ?_⟩
    · have hsense := (s.begin.latched l).halt_sense .interlock l
      rw [State.latched_sense, State.begin_sense] at hsense
      cases l <;> exact hsense
    · rw [State.transmit_pendingSet]
      exact State.pendingKept_halt _ .interlock _ hnote
    · exact State.halt_quiet ((s.begin.latched_run_state l).trans ha) .interlock
    · rw [← State.begin_sense s l]
      exact haltTaken_withLink (haltTaken_halt ((s.begin.latched_run_state l).trans ha) .interlock
        (by rw [State.latched_relays]; exact hwf)) (Link.startFrame_pendingSet _)
    · have hna : (s.begin.latched l).run.state ≠ .active := by rw [State.latched_run_state]; exact ha
      rw [State.halt_of_not_active hna, ← State.begin_sense s l]
      rfl

/-! ## ABORT_RUN -/

/-- Settles O32: the accepted request is the halt, and its reply touches the link alone. -/
theorem abortRunHalts : Obligations.AbortRunHalts := by
  unfold Obligations.AbortRunHalts
  intro tag p s hp hopen hwf
  refine ⟨fun hne => ?_, fun hnil hna => ?_, fun hnil ha => ?_⟩
  · exact exec_refused (r := .abortRun) hp hopen (by simp [handle, serveAbortRun, noOperand_ne hne])
  · subst hnil
    refine exec_refused (r := .abortRun) hp hopen ?_
    have hna' : s.begin.active ≠ true := fun hc => hna (s.begin.active_iff.1 hc)
    simp [handle, serveAbortRun, noOperand, hna']
  · subst hnil
    have ha' : s.begin.active = true := s.begin.active_iff.2 ha
    obtain ⟨t, hexec, ht, hpend, hreply⟩ := exec_accepted (r := .abortRun) (tag := tag)
      (u := s.begin.halt .station) (body := []) hp hopen (by simp [handle, serveAbortRun, noOperand, ha'])
    refine ⟨t, hexec, hreply, ?_⟩
    rw [ht]
    exact haltTaken_withLink (haltTaken_halt (s := s.begin) ha .station hwf) hpend

/-! ## Occurrences -/

theorem Counter.passesGroup_iff (k : Counter) (g : Nat) :
    k.passesGroup g = true ↔ k.group = none ∨ k.group = some g := by
  unfold Counter.passesGroup
  cases k.group <;> simp

theorem Counter.matchesOcc_iff (k : Counter) (o : Occurrence) :
    k.matchesOcc o = true ↔ k.event = o.event ∧ k.chMask.getLsbD o.ch.val = true ∧
      (∀ x, o.site = some x → k.siteMask.getLsbD (siteBit x) = true) ∧
      (∀ g, o.group = some g → k.group = none ∨ k.group = some g) ∧
      ∀ v, o.outcome = some v → k.outcomeMask.getLsbD (verdictNo v) = true := by
  unfold Counter.matchesOcc
  simp only [Bool.and_eq_true, decide_eq_true_eq, Option.all_eq_true, and_assoc, Counter.passesGroup_iff]
  rfl

theorem forall_site_iff (p : Site → Prop) : (∀ x, p x) ↔ (∀ i, p (.board i)) ∧ p .panel :=
  ⟨fun h => ⟨fun i => h _, h _⟩, fun ⟨hb, hp⟩ x => by cases x; exacts [hb _, hp]⟩

/-- A verdict's number is its place in the table of R122. -/
theorem verdict_getElem?_iff (j : Nat) (v : Verdict) :
    [Verdict.pass, .low, .high, .unsettled, .overrange, .aborted, .done][j]? = some v ↔ verdictNo v = j := by
  match j with
  | 0 | 1 | 2 | 3 | 4 | 5 | 6 => cases v <;> simp [verdictNo]
  | n + 7 => cases v <;> simp [verdictNo]

theorem Counter.condition_iff (k : Counter) (v : Nat) :
    k.condition v = true ↔ if k.invert = true then v < k.threshold else k.threshold ≤ v := by
  unfold Counter.condition
  split <;> simp

theorem Counter.amount_zero {k : Counter} (h : k.threshold = 0) (v : Nat) : k.amount v = v := by
  unfold Counter.amount; rw [if_pos h]

/-- With a threshold a counter adds 1 where its condition holds, and with edge only where its memory is not held
(R136). -/
theorem Counter.amount_threshold {k : Counter} (h : k.threshold ≠ 0) (v : Nat) :
    k.amount v = if k.condition v = true ∧ (k.edge = false ∨ k.edgeHeld = false) then 1 else 0 := by
  unfold Counter.amount
  rw [if_neg h]
  cases k.edge <;> cases k.edgeHeld <;> simp

/-- A counter with an amount added, its value as R138 gives it modulo 2^32. -/
theorem Counter.add_eq (k : Counter) (a : Nat) :
    k.add a =
      ({ k with
          value := BitVec.ofNat 32 (k.value.toNat + a)
          overflow := k.overflow || decide (4294967296 ≤ k.value.toNat + a) },
        decide (4294967296 ≤ k.value.toNat + a)) := by
  have hv : k.value + BitVec.ofNat 32 a = BitVec.ofNat 32 (k.value.toNat + a) := by
    apply BitVec.eq_of_toNat_eq
    simp
  unfold Counter.add
  rw [hv]
  rfl

/-- The counter at a place wraps on an occurrence where it matches, the counters are not frozen and its total reaches
2^32 (R138). -/
theorem Counter.onOccurrence_wraps (frozen : Bool) (o : Occurrence) (k : Counter) :
    (Counter.onOccurrence frozen o k).2 = true ↔
      (k.matchesOcc o = true ∧ frozen = false) ∧ 4294967296 ≤ k.value.toNat + k.amount o.value := by
  by_cases h : k.matchesOcc o = true ∧ frozen = false
  · rw [Counter.onOccurrence_hit h.1 h.2, Counter.add_eq]
    simp [h]
  · rw [Counter.onOccurrence_miss h]
    simp [h]

/-- Settles O53: the eight counters rewritten at once, then the wraps' effects one after another (`countAll_wrapsTaken`). -/
theorem occurrenceCounted : Obligations.OccurrenceCounted := by
  unfold Obligations.OccurrenceCounted
  refine ⟨fun k o => ?_, fun k v => ⟨fun h => Counter.amount_zero h v, fun h hc he => ?_, fun h hc => ?_⟩,
    fun s ha => ⟨fun h hwf => haltTaken_closeEvent ha h hwf, State.closeEvent_of_not_active⟩, fun s o => ?_⟩
  · rw [Counter.matchesOcc_iff, forall_site_iff, and_assoc]
    refine and_congr_right fun _ => and_congr_right fun _ => and_congr_right fun _ => and_congr_right fun _ =>
      and_congr_right fun _ => ⟨fun h j v hv => ?_, fun h v hv => ?_⟩
    · rw [← (verdict_getElem?_iff j v).1 hv]
      exact h v
    · exact h _ v ((verdict_getElem?_iff _ v).2 rfl) hv
  · rw [Counter.amount_threshold h, if_pos ⟨(k.condition_iff v).2 hc, he⟩]
  · rw [Counter.amount_threshold h, if_neg]
    rintro ⟨hcond, he⟩
    rcases hc with hc | ⟨h1, h2⟩
    · exact hc ((k.condition_iff v).1 hcond)
    · rcases he with he | he
      · rw [h1] at he; cases he
      · rw [h2] at he; cases he
  · intro hit total wraps
    have hw : ∀ i, (Counter.onOccurrence s.counters.frozen o (s.counters.units.get i)).2 = true ↔ wraps i := fun i =>
      Counter.onOccurrence_wraps s.counters.frozen o (s.counters.units.get i)
    have hwe : (fun i => (Counter.onOccurrence s.counters.frozen o (s.counters.units.get i)).2 = true) = wraps :=
      funext fun i => propext (hw i)
    have htaken := s.countAll_wrapsTaken (Counter.onOccurrence s.counters.frozen o)
    rw [hwe, ← State.offer_eq] at htaken
    refine ⟨fun i => ⟨fun h => ?_, fun h => ?_⟩, ?_, ?_, ?_, fun i hi hact j hm hj => ?_, _, htaken, ?_⟩
    · rw [State.offer_eq, State.countAll_get, Counter.onOccurrence_miss h]
    · rw [State.offer_eq, State.countAll_get, Counter.onOccurrence_hit h.1 h.2, Counter.add_eq]
    · rw [State.offer_eq, State.countAll_frozen]
      simp only [hw]
    · rw [State.offer_eq, State.countAll_haltAsked]
      simp only [hw]
    · rw [State.offer_eq, State.countAll_overflow]
      simp only [hw]
    · exact wrapsTaken_retires htaken hi hact hm hj
    · have htrack := (s.examTracked_countAll (Counter.onOccurrence s.counters.frozen o)).2
      rw [← State.offer_eq] at htrack
      exact (State.withExamDue_self htrack).symm

end Sys2Proof.Machine
end

section
/-! MONITOR_TICK (R134 to R140): O54. -/

namespace Sys2Proof.Machine

theorem Counter.shows_eq (k : Counter) (e : WindowEntry) :
    k.shows e = (k.passesSite e.inst.site && k.passesGroup e.inst.step.group) := by
  have hg : (decide (k.group = none) || decide (k.group = some e.inst.step.group)) =
      k.passesGroup e.inst.step.group := by
    rw [Bool.eq_iff_iff, Counter.passesGroup_iff]; simp
  unfold Counter.shows
  rw [hg]
  cases e.inst.site <;> rfl

theorem State.levelValue_eq (s : State) (k : Counter) :
    let shown := s.disp.window.filter k.shows
    (k.event = .window → s.levelValue k = shown.length) ∧
    (k.event = .blocked → s.levelValue k =
      (shown.filter fun e => decide (e.reason ∈ [Blocked.order, .node, .recall])).length) ∧
    (k.event = .busy → s.levelValue k =
      ((List.finRange 4).filter fun c => k.chMask.getLsbD c.val && (s.chan c).running.isSome).length) ∧
    (k.event = .queue → s.levelValue k = s.results.records.length) := by
  have hshows : k.shows = fun e => k.passesSite e.inst.site && k.passesGroup e.inst.step.group :=
    funext k.shows_eq
  unfold State.levelValue
  rw [hshows]
  refine ⟨fun h => by rw [h], fun h => ?_, fun h => ?_, fun h => by rw [h]⟩
  · rw [h]
    simp only [List.mem_cons, List.not_mem_nil, or_false, Bool.decide_or, Bool.or_assoc]
  · rw [h]
    have hc : allChans = List.finRange 4 := by decide
    simp only [hc, State.chanIdle, Channel.idle, Option.not_isNone]
    rfl

theorem CounterEvent.isLevel_iff (e : CounterEvent) :
    e.isLevel = true ↔ e ∈ [CounterEvent.window, .blocked, .busy, .queue] := by
  cases e <;> simp [CounterEvent.isLevel]

/-- What a counter adds at a tick: its amount, or nothing while the counters are frozen (R134, R141). -/
def Counter.tickAmount (frozen : Bool) (v : Nat) (k : Counter) : Nat := if frozen = true then 0 else k.amount v

theorem Counter.add_zero (k : Counter) : k.add 0 = (k, false) := by
  have hlt : ¬ 4294967296 ≤ k.value.toNat := by have := k.value.isLt; omega
  rw [Counter.add_eq]
  simp [hlt]

theorem Counter.onTick_level {k : Counter} (h : k.event ∈ [CounterEvent.window, .blocked, .busy, .queue])
    (frozen : Bool) (v : Nat) :
    Counter.onTick frozen v k =
      ({ (k.add (k.tickAmount frozen v)).1 with edgeHeld := k.condition v }, (k.add (k.tickAmount frozen v)).2) := by
  unfold Counter.onTick Counter.tickAmount
  rw [if_pos (k.event.isLevel_iff.2 h)]
  cases frozen
  · rfl
  · simp only [if_true, Counter.add_zero]

theorem Counter.onTick_occurrence {k : Counter} (h : ¬ k.event ∈ [CounterEvent.window, .blocked, .busy, .queue])
    (frozen : Bool) (v : Nat) : Counter.onTick frozen v k = (k, false) := by
  unfold Counter.onTick
  rw [if_neg (by rw [CounterEvent.isLevel_iff]; exact h)]

/-- A level counter wraps at a tick where its total reaches 2^32 (R138). -/
theorem Counter.onTick_wraps (frozen : Bool) (v : Nat) (k : Counter) :
    (Counter.onTick frozen v k).2 = true ↔
      k.event ∈ [CounterEvent.window, .blocked, .busy, .queue] ∧
        4294967296 ≤ k.value.toNat + k.tickAmount frozen v := by
  by_cases h : k.event ∈ [CounterEvent.window, .blocked, .busy, .queue]
  · rw [Counter.onTick_level h, Counter.add_eq]
    simp only [h, true_and, decide_eq_true_eq]
  · rw [Counter.onTick_occurrence h]
    simp only [h, false_and, Bool.false_eq_true]

/-- The state in which a tick is counted: at the start of its event, marked as taken. -/
def State.ticking (s : State) : State := { s.begin with tickTaken := true }

theorem exec_monitorTick (s : State) :
    exec .monitorTick s =
      .next (if s.begin.tickDue then s.ticking.tickCounters.closeEvent else s.begin).transmit := rfl

theorem State.tickDue_iff (s : State) : s.tickDue = true ↔ s.time.toNat % 4 = 0 ∧ s.tickTaken = false := by
  simp [State.tickDue]

/-- The state before the close of an event whose counting takes no halt: the run as it was. -/
theorem State.countAll_takeAskedHalt {s : State} {f : Counter → Counter × Bool} (hask : s.run.haltAsked = false)
    (h : ¬ ((s.countAll f).run.haltAsked = true ∧ s.run.state = .active)) :
    (s.countAll f).closeEvent = ((s.countAll f).withRun s.run).closeEvent := by
  have hrun := s.countAll_run f
  have hself : ({ s.run with haltAsked := false } : RunControl) = s.run := by rw [← hask]
  have htake : (s.countAll f).takeAskedHalt = (s.countAll f).withRun s.run := by
    cases ha : (s.countAll f).run.haltAsked
    · rw [ha, hself] at hrun
      rw [State.takeAskedHalt_of_not ha, ← hrun]
      rfl
    · have hna : s.run.state ≠ .active := fun hc => h ⟨ha, hc⟩
      rw [State.takeAskedHalt_of_asked ha]
      have hrun' : ({ (s.countAll f).run with haltAsked := false } : RunControl) = s.run := by rw [hrun, ← hself]
      rw [hrun']
      exact State.halt_of_not_active (s := (s.countAll f).withRun s.run) hna .limit
  unfold State.closeEvent
  rw [htake, State.takeAskedHalt_of_not (s := (s.countAll f).withRun s.run) hask]

/-- The close after counting that takes a halt: every effect of the halt, from the state counting left (R139). -/
theorem State.countAll_close_halts {s : State} {f : Counter → Counter × Bool}
    (ha : (s.countAll f).run.haltAsked = true) (h : s.run.state = .active) (e : Bool) :
    (s.countAll f).closeEvent.run.state = .halted .limit ∧
      (s.relays.nodes.wf = true → haltTaken ((s.countAll f).withExamDue e) .limit (s.countAll f).closeEvent) := by
  have hact : (s.countAll f).run.state = .active := (State.countAll_run_state s f).trans h
  refine ⟨?_, fun hwf => ?_⟩
  · rw [State.closeEvent_of_asked ha hact]
    exact (State.halt_quiet (s := (s.countAll f).withRun { (s.countAll f).run with haltAsked := false }) hact .limit).1
  · have htk := haltTaken_closeEvent ha hact (by rw [State.countAll_relays]; exact hwf)
    exact haltTaken_of_transients (s := (s.countAll f).withExamDue e) (asked := (s.countAll f).run.haltAsked)
      (e := (s.countAll f).disp.examDue) htk

/-- The close after counting that takes no halt, where no examination was due before: with nothing taken out of the window
the completion test, else the examination that the removals call for (R60, R151). -/
theorem State.countAll_close_quiet {s : State} {f : Counter → Counter × Bool} (hask : s.run.haltAsked = false)
    (hexam : s.disp.examDue = false) (h : ¬ ((s.countAll f).run.haltAsked = true ∧ s.run.state = .active)) :
    let w := ((s.countAll f).withExamDue false).withRun s.run
    let left : Prop := w.disp.window.length < s.disp.window.length
    (¬ left → (s.countAll f).closeEvent = w.testDone) ∧
      (¬ left → s.completed = false → (s.countAll f).closeEvent = w) ∧
      (left → (s.countAll f).closeEvent = (w.withExamDue true).closeEvent) := by
  intro w left
  obtain ⟨hle, htrack⟩ := s.examTracked_countAll f
  have hclose := State.countAll_takeAskedHalt hask h
  have hquiet : ¬ left → (s.countAll f).closeEvent = w.testDone := by
    intro hl
    have he : (s.countAll f).disp.examDue = false := by
      rw [htrack, hexam, Bool.false_or]; exact decide_eq_false hl
    rw [hclose, State.closeEvent_of_quiet (s := (s.countAll f).withRun s.run) hask (Or.inl he)]
    rfl
  refine ⟨hquiet, fun hl hc => ?_, fun hl => ?_⟩
  · rw [hquiet hl, State.testDone_of_not]
    rw [Bool.eq_false_iff, Ne, State.completed_iff] at hc ⊢
    rintro ⟨ha, ⟨v, hv⟩, hw, hidle⟩
    refine hc ⟨ha, ⟨v, (State.countAll_disp_fetch s f).symm.trans hv⟩, ?_, fun c => ?_⟩
    · have hlen : s.disp.window.length ≤ w.disp.window.length := Nat.le_of_not_lt hl
      rw [hw] at hlen
      exact List.length_eq_zero_iff.1 (Nat.le_zero.1 hlen)
    · rw [← State.chan_of_chans_eq (State.countAll_chans s f) c]
      exact hidle c
  · have he : (s.countAll f).disp.examDue = true := by
      rw [htrack, hexam, Bool.false_or]; exact decide_eq_true hl
    rw [hclose]
    exact congrArg State.closeEvent (State.withExamDue_self (s := (s.countAll f).withRun s.run) he).symm

/-- A tick's rewriting of a counter. -/
def State.tickStep (s : State) (k : Counter) : Counter × Bool :=
  Counter.onTick s.counters.frozen (s.levelValue k) k

/-- Settles O54: the tick is the counting of the level values, and the wraps decide how its event closes. -/
theorem monitorTickCounted : Obligations.MonitorTickCounted := by
  unfold Obligations.MonitorTickCounted
  refine ⟨fun s k => s.levelValue_eq k, fun s hs => ⟨fun hno => ?_, fun h4 htt htr => ?_⟩⟩
  · rw [exec_monitorTick, if_neg (by rw [State.tickDue_iff]; exact hno), State.transmit_settled (s := s.begin) hs]
  obtain ⟨hexam, hask⟩ := htr
  intro level total wraps acts halts
  have hw : ∀ i, (s.tickStep (s.counters.units.get i)).2 = true ↔ wraps i := fun i => Counter.onTick_wraps ..
  have hwe : (fun i => (s.tickStep (s.ticking.counters.units.get i)).2 = true) = wraps :=
    funext fun i => propext (hw i)
  have htaken := s.ticking.countAll_wrapsTaken s.tickStep
  rw [hwe] at htaken
  have hasked : (s.ticking.countAll s.tickStep).run.haltAsked = true ↔ acts .halt := by
    rw [State.countAll_haltAsked, show s.ticking.run.haltAsked = false from hask]
    simp only [Bool.false_eq_true, false_or]
    exact exists_congr fun i => and_congr_left fun _ => hw i
  have hev := (s.ticking.countAll s.tickStep).evolves_closeEvent
  refine ⟨(s.ticking.countAll s.tickStep).counters, (s.ticking.countAll s.tickStep).run.haltAsked,
    (s.ticking.countAll s.tickStep).withExamDue s.disp.examDue, (s.ticking.countAll s.tickStep).closeEvent, ?_,
    fun i => ⟨fun h => ?_, fun h => ?_⟩, ?_, hasked, htaken, hev.pending, fun i hi => ?_, fun i hi ha j hm hj => ?_,
    fun hh => ?_, fun hh => ?_⟩
  · rw [exec_monitorTick, if_pos ((State.tickDue_iff s.begin).2 ⟨h4, htt⟩)]
    rfl
  · rw [State.countAll_get]
    exact congrArg Prod.fst (Counter.onTick_occurrence h _ _)
  · rw [State.countAll_get]
    refine (congrArg Prod.fst (Counter.onTick_level h _ _)).trans ?_
    rw [Counter.add_eq]
    rfl
  · rw [State.countAll_frozen]
    exact or_congr_right (exists_congr fun i => and_congr_left fun _ => hw i)
  · exact hev.pending _ ((State.countAll_overflow _ _).2 (Or.inr ⟨i, (hw i).2 hi⟩))
  · obtain ⟨hret, hnote⟩ := wrapsTaken_retires htaken hi ha hm hj
    refine ⟨?_, hev.pending _ hnote⟩
    have hret' : (s.ticking.countAll s.tickStep).siteState j = .retired .limit := hret
    unfold State.siteState
    rw [hev.sites j (by rw [hret']; simp)]
    exact hret'
  · obtain ⟨hrun, htk⟩ := State.countAll_close_halts (s := s.ticking) (hasked.2 hh.1) hh.2 s.disp.examDue
    exact ⟨hrun, hev.sites, htk⟩
  · have hno : ¬ ((s.ticking.countAll s.tickStep).run.haltAsked = true ∧ s.ticking.run.state = .active) :=
      fun hc => hh ⟨hasked.1 hc.1, hc.2⟩
    obtain ⟨hq, hc, hl⟩ := State.countAll_close_quiet (s := s.ticking) hask hexam hno
    rw [hexam]
    intro w left
    have hwf : s.relays.nodes.wf = true → w.relays.nodes.wf = true := fun h => by
      rw [show w.relays = s.ticking.relays from State.countAll_relays _ _]; exact h
    refine ⟨fun hn hs => ?_, fun hn hcomp => hc hn hcomp, fun hn => ⟨hl hn, fun hcalm hs => ?_⟩⟩
    · rw [hq hn]
      exact completionTested_testDone (hwf hs)
    · rw [hl hn]
      exact closedFrom_closeEvent (s := w)
        (fun hact => hcalm.elim State.walksCalm_of_passive fun hd => State.walksCalm_of_dispatchQuiet hd hact)
        hask rfl (Or.inl (hwf hs))

end Sys2Proof.Machine
end

section
/-! O2: the filling of the window. -/

namespace Sys2Proof.Machine

/-- Settles O2: the makings left go down at every making, so the filling's fuel lasts until none can be made. -/
theorem windowFilled : Obligations.WindowFilled := fun s => by
  have hbegin : s.begin.canMake = s.canMake := rfl
  refine ⟨s.canMake_iff, fun h => ?_, fillLoop_iterate s.fillFuel s s.makingsLeft_le⟩
  rw [exec_fetchAppend, if_pos (hbegin.trans h)]

end Sys2Proof.Machine
end

section
/-! O24: one making of the fetch. -/

namespace Sys2Proof.Machine

/-! ## The node set (R23) -/

theorem insertNode_perm (p : Node × Line) (l : List (Node × Line)) : (insertNode p l).Perm (p :: l) := by
  induction l with
  | nil => exact .refl _
  | cons q l ih =>
    unfold insertNode
    split
    · exact .refl _
    · exact (ih.cons q).trans (.swap p q l)

theorem insertNode_sorted {p : Node × Line} {l : List (Node × Line)} (h : (l.map Prod.fst).Pairwise (· ≤ ·)) :
    ((insertNode p l).map Prod.fst).Pairwise (· ≤ ·) := by
  induction l with
  | nil => simp [insertNode]
  | cons q l ih =>
    obtain ⟨hq, hl⟩ := List.pairwise_cons.1 h
    unfold insertNode
    split
    next hpq =>
      refine List.pairwise_cons.2 ⟨fun x hx => ?_, h⟩
      rcases List.mem_cons.1 hx with rfl | hx
      · exact hpq
      · exact hpq.trans (hq x hx)
    next hpq =>
      refine List.pairwise_cons.2 ⟨fun x hx => ?_, ih hl⟩
      have hx' := (((insertNode_perm p l).map Prod.fst).mem_iff).1 hx
      rcases List.mem_cons.1 hx' with rfl | hx'
      · exact (Nat.lt_of_not_le hpq).le
      · exact hq x hx'

theorem sortNodes_perm (l : List (Node × Line)) : (sortNodes l).Perm l := by
  induction l with
  | nil => exact .refl _
  | cons p l ih => exact (insertNode_perm p _).trans (ih.cons p)

theorem sortNodes_sorted (l : List (Node × Line)) : ((sortNodes l).map Prod.fst).Pairwise (· ≤ ·) := by
  induction l with
  | nil => exact .nil
  | cons p l ih => exact insertNode_sorted ih

/-- The nodes of a record's references on a fixture base, each with the line of its list. -/
theorem references_shifted (r : StepRecord) (base : Nat) :
    r.references.map (fun p => (base + p.1, p.2)) =
      r.force.map (fun a => (base + a, Line.forceLine)) ++ r.ret.map (fun a => (base + a, Line.returnLine)) ++
        r.guard.map (fun a => (base + a, Line.guardLine)) := by
  simp [StepRecord.references, Function.comp_def]

theorem State.nodeSet_eq (s : State) (r : StepRecord) (site : Site) :
    s.nodeSet r site = sortNodes (r.references.map fun p =>
      ((match site with | .board i => (s.sites.entries.get i).base | .panel => 0) + p.1, p.2)) := by
  cases site with
  | board i => rfl
  | panel => simp [State.nodeSet]

/-! ## The making is the same at whatever position the fetch stands -/

theorem State.drainBank_withFetch (s : State) (f : Fetch) (w : BankId) :
    (s.withFetch f).drainBank w = (s.drainBank w).withFetch f := by
  unfold State.drainBank State.drainIfDone
  rw [apply_ite (State.withFetch · f)]
  rfl

theorem State.passLast_withFetch (s : State) (f : Fetch) (w : BankId) : (s.withFetch f).passLast w = s.passLast w := by
  unfold State.passLast
  rw [State.drainBank_withFetch]
  rfl

theorem State.passEnd_withFetch (s : State) (f : Fetch) (w : BankId) : (s.withFetch f).passEnd w = s.passEnd w := by
  unfold State.passEnd
  rw [State.passLast_withFetch, State.drainBank_withFetch]
  rfl

theorem scanSites_withFetch (l : List (Fin 8)) (s : State) (f : Fetch) :
    scanSites l (s.withFetch f) = ((scanSites l s).1.withFetch f, (scanSites l s).2) := by
  induction l generalizing s with
  | nil => rfl
  | cons i l ih =>
    have hst : (s.withFetch f).siteState i = s.siteState i := rfl
    unfold scanSites
    rw [hst]
    cases hs : s.siteState i with
    | active => rfl
    | retired why => exact ih (s.addSkipped i 1)
    | off => exact ih s

theorem makeFrom_withFetch (w : BankId) (rs : List StepRecord) (i n : Nat) (s : State) (f : Fetch) :
    makeFrom w rs i n (s.withFetch f) = makeFrom w rs i n s := by
  induction rs generalizing i n s with
  | nil => exact s.passEnd_withFetch f w
  | cons r rs ih =>
    cases hr : r.scope with
    | common => rw [makeFrom_cons_common hr, makeFrom_cons_common hr]; rfl
    | site =>
      have hscan := scanSites_withFetch (s.sitesFrom n) s f
      rcases hs : scanSites (s.sitesFrom n) s with ⟨t, _ | j⟩ <;> rw [hs] at hscan
      · rw [makeFrom_cons_none hr hs, makeFrom_cons_none hr hscan, ih]
      · rw [makeFrom_cons_found hr hs, makeFrom_cons_found hr hscan]
        rfl

/-! ## The new entry through the examination -/

/-- With the fetch not at END a close that calls for an examination does not lose `x`, where the walks are calm. -/
theorem State.tracks_closeEvent {x : Instance} {s : State} (hact : s.run.state = .active) (hask : s.run.haltAsked = false)
    (hcalm : s.turnsCalm) (hf : ∀ w, s.disp.fetch ≠ .atEnd w) (hx : s.tracks x) :
    (s.withExamDue true).closeEvent.tracks x := by
  obtain ⟨u, hu, hc, he⟩ := State.closeEvent_examined (Or.inl hcalm) hask hact
  have hnot : u.completed = false := by
    rw [Bool.eq_false_iff, Ne, State.completed_iff, hc.fetch]
    exact fun h => h.2.1.elim hf
  rw [he, State.testDone_of_not hnot]
  exact hu.tracks hcalm hx

/-- `x` at the young end of the window, where none of its identity waits. -/
theorem State.tracks_of_young {x : Instance} {s : State} {l : List WindowEntry} {e : WindowEntry}
    (hw : s.disp.window = l ++ [e]) (he : e.inst = x) (habs : ∀ d ∈ l, d.inst.key ≠ x.key) : s.tracks x := by
  refine Or.inl ⟨by simp [hw, he], fun y hy hk => ?_⟩
  rw [hw, List.map_append, List.mem_append] at hy
  rcases hy with hy | hy
  · obtain ⟨d, hd, rfl⟩ := List.mem_map.1 hy
    exact absurd hk (habs d hd)
  · simpa [he] using hy

/-- An event whose making leaves an entry at the young end of the window, an examination due and the fetch at a further
position. -/
theorem State.appended_closed {s : State} {x : Instance} {l : List WindowEntry} {e : WindowEntry} {w : BankId} {i n : Nat}
    (hact : s.run.state = .active) (hclear : s.transientsClear) (hcalm : s.turnsCalm)
    (hf : s.disp.fetch = .reading w i n) (hw : s.disp.window = l ++ [e]) (he : e.inst = x) :
    closedFrom s (s.withExamDue true).closeEvent ∧
      ((∀ d ∈ l, d.inst.key ≠ x.key) → (∃ d ∈ (s.withExamDue true).closeEvent.disp.window, d.inst = x) ∨
        ∃ c, (s.withExamDue true).closeEvent.instIn c = some x) := by
  have hend : ∀ v, s.disp.fetch ≠ .atEnd v := fun v h => by rw [hf] at h; cases h
  refine ⟨closedFrom_closeEvent (fun _ => Or.inl hcalm) hclear.2 hclear.1 (Or.inr hend), fun habs => ?_⟩
  exact (State.tracks_closeEvent hact hclear.2 hcalm hend (State.tracks_of_young hw he habs)).imp_left
    fun h => List.mem_map.1 h.1

/-! ## The statement -/

/-- The site entries after the sites of a range, none of them ACTIVE, have been passed over (R27). -/
theorem foldl_passOver_range {s : State} {l : List (Fin 8)} {n b : Nat} (hnd : l.Nodup)
    (hmem : ∀ k, k ∈ l ↔ n ≤ k.val ∧ k.val < b)
    (hno : ∀ k : Fin 8, n ≤ k.val → k.val < b → s.siteState k ≠ .active) (k : Fin 8) :
    (l.foldl State.passOver s).sites.entries.get k =
      if n ≤ k.val ∧ k.val < b ∧ s.siteState k ≠ .off then
        { s.sites.entries.get k with skipped := min 65535 ((s.sites.entries.get k).skipped + 1) }
      else s.sites.entries.get k := by
  have hiff : (k ∈ l ∧ s.siteState k ≠ .off ∧ s.siteState k ≠ .active) ↔
      (n ≤ k.val ∧ k.val < b ∧ s.siteState k ≠ .off) := by
    rw [hmem]
    exact ⟨fun ⟨⟨h1, h2⟩, h3, _⟩ => ⟨h1, h2, h3⟩, fun ⟨h1, h2, h3⟩ => ⟨⟨h1, h2⟩, h3, hno k h1 h2⟩⟩
  rw [foldl_passOver_get l hnd]
  simp only [hiff]

/-- The records from an index on. -/
theorem drop_of_getElem? {l : List StepRecord} {i : Nat} {r : StepRecord} (h : l[i]? = some r) :
    l.drop i = r :: l.drop (i + 1) := by
  obtain ⟨hi, rfl⟩ := List.getElem?_eq_some_iff.1 h
  exact List.drop_eq_getElem_cons hi

/-- What is made of a record for a site or the panel carries the nodes of the record on the site's base. -/
theorem State.makeInstance_nodes (s : State) (w : BankId) (i : Nat) (r : StepRecord) (site : Site) (base : Nat)
    (hb : base = match site with | .board j => (s.sites.entries.get j).base | .panel => 0) :
    (s.makeInstance w i r site).nodes.Perm (r.force.map (fun a => (base + a, Line.forceLine)) ++
        r.ret.map (fun a => (base + a, Line.returnLine)) ++ r.guard.map (fun a => (base + a, Line.guardLine))) ∧
      ((s.makeInstance w i r site).nodes.map Prod.fst).Pairwise (· ≤ ·) := by
  have hn : (s.makeInstance w i r site).nodes = sortNodes (r.references.map fun p => (base + p.1, p.2)) := by
    rw [hb]; exact s.nodeSet_eq r site
  rw [hn, ← references_shifted]
  exact ⟨sortNodes_perm _, sortNodes_sorted _⟩

/-- Settles O24: the making by the record's scope and the sites' states; its close is the examination, which takes
nothing out of the window but to a channel. -/
theorem fetchMakesInstance : Obligations.FetchMakesInstance := by
  intro s w i n r hact hlen hf hr refs made appended absent taken
  have hexec : exec .fetchAppend s = .next s.begin.fetchMake.closeEvent.transmit := by
    rw [exec_fetchAppend, if_pos (State.canMake_of_reading (s := s.begin) hact hlen hf)]
  have hmake : s.begin.fetchMake = makeFrom w (r :: (s.plan.get w).records.drop (i + 1)) i n s.begin := by
    rw [State.fetchMake_reading (s := s.begin) hf, ← drop_of_getElem? hr]; rfl
  refine ⟨fun hscope hclear hcalm => ?_, fun j hscope hnj hjc hj hfirst hclear hcalm => ?_, fun hscope hnone => ?_⟩
  · set x := s.begin.makeInstance w i r .panel
    obtain ⟨hclosed, htaken⟩ := State.appended_closed (s := appended x (.reading w (i + 1) 0)) (x := x)
      hact hclear hcalm.symm rfl rfl rfl
    refine ⟨x, _, ⟨rfl, rfl, rfl, rfl, rfl, s.begin.makeInstance_nodes w i r .panel 0 rfl⟩, hclosed, htaken, ?_⟩
    rw [hexec, hmake, makeFrom_cons_common hscope]
    rfl
  · obtain ⟨l, hnd, hmem, hscan⟩ := State.scan_found (s := s.begin) hnj hjc hj hfirst
    set sites := (l.foldl State.passOver s.begin).sites with hsites
    have hcount : sites.count = s.sites.count := foldl_passOver_sites_count l s.begin
    have hget : ∀ k : Fin 8, sites.entries.get k =
        if n ≤ k.val ∧ k.val < j.val ∧ s.siteState k ≠ .off then
          { s.sites.entries.get k with skipped := min 65535 ((s.sites.entries.get k).skipped + 1) }
        else s.sites.entries.get k := by
      exact foldl_passOver_range (s := s.begin) hnd hmem hfirst
    set t := s.begin.withSites sites with ht
    have hfold : l.foldl State.passOver s.begin = t := foldl_passOver_eq l s.begin
    set x := t.makeInstance w i r (.board j) with hx
    set pos : Fetch := if j.val + 1 < s.sites.count then .reading w i (j.val + 1) else .reading w (i + 1) 0 with hpos
    have hreading : ∃ k m, pos = .reading w k m := by
      rw [hpos]; split
      · exact ⟨_, _, rfl⟩
      · exact ⟨_, _, rfl⟩
    obtain ⟨k, m, hkm⟩ := hreading
    have hbase : (s.sites.entries.get j).base = (sites.entries.get j).base := by
      rw [hget j, if_neg (fun h => absurd h.2.1 (Nat.lt_irrefl _))]
    obtain ⟨hclosed, htaken⟩ := State.appended_closed (s := (appended x pos).withSites sites) (x := x)
      hact hclear hcalm.symm hkm rfl rfl
    refine ⟨x, sites, _, ⟨rfl, rfl, rfl, rfl, rfl, t.makeInstance_nodes w i r (.board j) _ hbase⟩, hcount, hget, hclosed,
      htaken, ?_⟩
    have hnext : t.nextPos w i j = pos := by
      unfold State.nextPos
      rw [ht, State.withSites_sites, hcount]
    rw [hexec, hmake, makeFrom_cons_found hscope (hfold ▸ hscan), hnext]
    rfl
  · set l := s.begin.sitesFrom n with hl
    have hmem : ∀ k, k ∈ l ↔ n ≤ k.val ∧ k.val < s.sites.count := s.begin.mem_sitesFrom n
    have hnd : l.Nodup := s.begin.sitesFrom_nodup n
    set sites := (l.foldl State.passOver s.begin).sites with hsites
    have hscan : scanSites l s.begin = (s.begin.withSites sites, none) := by
      rcases scanSites_cases l s.begin with ⟨l1, k, l2, hl', hk, -, -⟩ | ⟨-, he⟩
      · have hkl : k ∈ l := by rw [hl']; simp
        exact absurd hk (hnone k ((hmem k).1 hkl).1 ((hmem k).1 hkl).2)
      · rw [he, foldl_passOver_eq l s.begin]
    refine ⟨sites, foldl_passOver_sites_count l s.begin, foldl_passOver_range (s := s.begin) hnd hmem hnone, ?_⟩
    · set u := (s.withSites sites).withDisp { s.disp with fetch := .reading w (i + 1) 0 }
      have hu : exec .fetchAppend u = .next u.begin.fetchMake.closeEvent.transmit := by
        rw [exec_fetchAppend, if_pos (State.canMake_of_reading (s := u.begin) hact hlen rfl)]
      have hmu : u.begin.fetchMake = makeFrom w ((s.plan.get w).records.drop (i + 1)) (i + 1) 0
          ((s.begin.withSites sites).withFetch (.reading w (i + 1) 0)) :=
        State.fetchMake_reading (s := u.begin) rfl
      rw [hexec, hu, hmake, makeFrom_cons_none hscope hscan, hmu, makeFrom_withFetch]

end Sys2Proof.Machine
end

section
/-! O35: RETIRE_SITE. -/

namespace Sys2Proof.Machine

theorem oneByte_ne {p : List Byte} (h : p.length ≠ 1) : oneByte p = none := by
  match p with
  | [] => rfl
  | [_] => exact absurd rfl h
  | _ :: _ :: _ => rfl

/-- The site a RETIRE_SITE names (R33). -/
theorem State.siteNamed_some {s : State} {v : Byte} {i : Fin 8} (hi : i.val = v.toNat) (hc : i.val < s.sites.count) :
    s.siteNamed v = some i := by
  unfold State.siteNamed
  have hp : (decide (i.val = v.toNat) && decide (i.val < s.sites.count)) = true := by simp [hi, hi ▸ hc]
  cases hf : allEight.find? fun i => decide (i.val = v.toNat) && decide (i.val < s.sites.count) with
  | none => exact absurd hp (List.find?_eq_none.1 hf i (mem_allEight i))
  | some k =>
    have hk := List.find?_some hf
    simp only [Bool.and_eq_true, decide_eq_true_eq] at hk
    rw [Fin.ext (hk.1.trans hi.symm)]

theorem State.siteNamed_none {s : State} {v : Byte} (h : 7 < v.toNat ∨ s.sites.count ≤ v.toNat) :
    s.siteNamed v = none := by
  refine List.find?_eq_none.2 fun i _ hp => ?_
  simp only [Bool.and_eq_true, decide_eq_true_eq] at hp
  have := i.isLt
  omega

/-- An accepted RETIRE_SITE of a site that is not OFF. -/
theorem retireSite_accepts {s : State} {v : Byte} {i : Fin 8} (hi : i.val = v.toNat) (hc : i.val < s.sites.count)
    (hoff : s.siteState i ≠ .off) :
    handle .retireSite [v] s.begin = accept (s.begin.stationRetire i)
      ([siteStateCode ((s.begin.stationRetire i).siteState i), retireReasonCode ((s.begin.stationRetire i).siteState i)] ++
        leBytes 2 ((s.begin.stationRetire i).sites.entries.get i).skipped) := by
  have hn : s.begin.siteNamed v = some i := State.siteNamed_some hi hc
  simp only [handle, serveRetireSite, oneByte, hn]
  rw [if_neg (show ¬ s.begin.siteState i = .off from hoff)]

/-! ## The retirement and what it starts (R34) -/

/-- The retired site when the retirement's examination and the filling are done. -/
theorem State.keepsOut_retired {s : State} {i : Fin 8} (hact : s.siteState i = .active) :
    (s.retire i .station).siteState i = .retired .station ∧
      (s.retire i .station).KeepsOut i ((s.retire i .station).closeEvent).fill := by
  have hr : (s.retire i .station).siteState i = .retired .station := by
    unfold State.siteState; rw [State.retire_get hact, if_pos rfl]
  have hc : (s.retire i .station).KeepsOut i (s.retire i .station).closeEvent :=
    (State.evolves_closeEvent _).keepsOut (by rw [hr]; exact fun h => by cases h)
  exact ⟨hr, hc.trans (State.keepsOut_fill (by rw [hc.siteState, hr]; exact fun h => by cases h))⟩

/-- An accepted RETIRE_SITE of an ACTIVE site: the retirement, its examination, the filling, and the reply. -/
theorem exec_retireSite_active {s : State} {v : Byte} {i : Fin 8} {tag : Byte} (hopen : s.linkOpen)
    (hi : i.val = v.toNat) (hc : i.val < s.sites.count) (hact : s.siteState i = .active) :
    ∃ t, exec (.retireSite tag [v]) s = .next t ∧ t = ((s.begin.retire i .station).closeEvent).fill.withLink t.link ∧
      t.link.pendingSet = ((s.begin.retire i .station).closeEvent).fill.link.pendingSet ∧
      t.hasReply 0xB5 tag .ok ([0x02, 0x03] ++ leBytes 2 (t.sites.entries.get i).skipped) none := by
  have hst : s.begin.stationRetire i = ((s.begin.retire i .station).closeEvent).fill := if_pos hact
  have hh := retireSite_accepts hi hc (by rw [hact]; exact fun h => by cases h)
  obtain ⟨hr, hkeep⟩ := State.keepsOut_retired (s := s.begin) hact
  rw [hst, hkeep.siteState, hr] at hh
  obtain ⟨t, hexec, ht, hpend, hreply⟩ := exec_accepted (r := .retireSite) (tag := tag) (by simp) hopen hh
  refine ⟨t, hexec, ht, hpend, ?_⟩
  have hsites : t.sites = ((s.begin.retire i .station).closeEvent).fill.sites := by rw [ht]; rfl
  rw [hsites]
  exact hreply

/-- The close of the retirement's event: the examination where an entry of the site has left the window, the
completion test alone where none has (R60). -/
theorem State.retire_closes {s : State} {i : Fin 8} (hact : s.siteState i = .active) (hclear : s.transientsClear)
    (hp : s.countersPassive) (hwf : s.relays.nodes.wf = true) :
    ((∃ e ∈ s.disp.window, e.inst.site = .board i) →
        closedFrom ((s.retire i .station).withExamDue s.disp.examDue) (s.retire i .station).closeEvent) ∧
      ((∀ e ∈ s.disp.window, e.inst.site ≠ .board i) →
        completionTested ((s.retire i .station).withExamDue s.disp.examDue) (s.retire i .station).closeEvent) := by
  have hexam := State.retire_examDue (why := .station) hact
  have hwin := State.retire_window (why := .station) hact
  have hask : (s.retire i .station).run.haltAsked = false := by rw [State.retire_run]; exact hclear.2
  have hwf' : (s.retire i .station).relays.nodes.wf = true := by rw [State.retire_relays]; exact hwf
  have hp' : ((s.retire i .station).withExamDue false).countersPassive := by
    unfold State.countersPassive
    rw [show ((s.retire i .station).withExamDue false).counters = s.counters from State.retire_counters s i .station]
    exact hp
  rw [hclear.1]
  constructor
  · rintro ⟨e, he, hsite⟩
    have hlt : (s.retire i .station).disp.window.length < s.disp.window.length := by
      rw [hwin, List.length_filter_lt_length_iff_exists]
      exact ⟨e, he, by simp [hsite]⟩
    have hdue : (s.retire i .station).disp.examDue = true := by rw [hexam, decide_eq_true hlt, Bool.or_true]
    have hclosed := closedFrom_closeEvent (s := (s.retire i .station).withExamDue false)
      (fun _ => State.walksCalm_of_passive hp') hask rfl (Or.inl hwf')
    rwa [State.withExamDue_withExamDue, State.withExamDue_self hdue] at hclosed
  · intro hall
    have hlen : ¬ (s.retire i .station).disp.window.length < s.disp.window.length := by
      rw [hwin, List.length_filter_lt_length_iff_exists]
      rintro ⟨e, he, hf⟩
      exact hall e he (by simpa using hf)
    have hdue : (s.retire i .station).disp.examDue = false := by
      rw [hexam, hclear.1, decide_eq_false hlen]; rfl
    rw [State.closeEvent_of_quiet hask (Or.inl hdue)]
    exact completionTested_testDone hwf'

/-- Settles O35: the retirement, the close of its event, and the filling, which let nothing of the site in again. -/
theorem retireSiteServed : Obligations.RetireSiteServed := by
  unfold Obligations.RetireSiteServed
  intro tag p s hp hopen
  refine ⟨fun hlen => ?_, fun v hpv => ⟨fun hv => ?_, fun i hi hc => ⟨fun hoff => ?_, fun w hw => ?_,
    fun hact hclear hstill => ?_, fun hact hclear hpass hwf => ?_⟩⟩⟩
  · exact exec_refused (r := .retireSite) hp hopen (by simp [handle, serveRetireSite, oneByte_ne hlen])
  all_goals subst hpv
  · have hn : s.begin.siteNamed v = none := State.siteNamed_none hv
    exact exec_refused (r := .retireSite) hp hopen (by simp [handle, serveRetireSite, oneByte, hn])
  · have hn : s.begin.siteNamed v = some i := State.siteNamed_some hi hc
    refine exec_refused (r := .retireSite) hp hopen ?_
    simp only [handle, serveRetireSite, oneByte, hn]
    rw [if_pos (show s.begin.siteState i = .off from hoff)]
  · have hst : s.begin.stationRetire i = s.begin :=
      if_neg (show ¬ s.begin.siteState i = .active by rw [show s.begin.siteState i = _ from hw]; exact fun h => by cases h)
    have hh := retireSite_accepts hi hc (by rw [hw]; exact fun h => by cases h)
    rw [hst, show s.begin.siteState i = _ from hw] at hh
    exact exec_unchanged (r := .retireSite) hp hopen hh
  · obtain ⟨t, hexec, ht, hpend, hreply⟩ := exec_retireSite_active (tag := tag) hopen hi hc hact
    obtain ⟨hr, hkeep⟩ := State.keepsOut_retired (s := s.begin) hact
    have hget := State.retire_get (s := s.begin) (why := .station) hact i
    have hc1 := State.still_closeEvent (s := s.begin.retire i .station)
      (by unfold State.countersStill; rw [State.retire_counters]; exact hstill) (by rw [State.retire_run]; exact hclear.2)
    have hc2 := State.still_fill (s := (s.begin.retire i .station).closeEvent)
      (by unfold State.countersStill; rw [hc1.counters, State.retire_counters]; exact hstill) hc1.haltAsked
    have hsites : t.sites = ((s.begin.retire i .station).closeEvent).fill.sites := by rw [ht]; rfl
    refine ⟨t, hexec, hreply, ?_, ?_, ?_, ?_, ?_, ?_⟩
    · unfold State.siteState
      rw [hsites]
      exact hkeep.siteState.trans hr
    · rw [hpend]
      exact hkeep.pending _ (State.retire_siteRetired (s := s.begin) hact)
    · rw [ht]
      refine hkeep.window fun e he => ?_
      rw [State.retire_window (s := s.begin) hact, List.mem_filter] at he
      simpa using he.2
    · have hskip := hkeep.skipped
      rw [hget, if_pos rfl] at hskip
      rw [hsites]
      change min 65535 ((s.sites.entries.get i).skipped + (s.begin.entriesOf i).length) ≤ _
      split at hskip
      next hnil => rw [hnil]; exact hskip
      next => simp only [State.begin_sites] at hskip; omega
    · rw [ht]
      exact hc2.results.trans (hc1.results.trans (State.retire_results s.begin i .station))
    · rw [ht]
      exact hc2.counters.trans (hc1.counters.trans (State.retire_counters s.begin i .station))
  · obtain ⟨t, hexec, ht, hpend, hreply⟩ := exec_retireSite_active (tag := tag) hopen hi hc hact
    obtain ⟨hexamined, htested⟩ := State.retire_closes (s := s.begin) hact hclear hpass hwf
    exact ⟨_, _, t, siteWithdrawn_retire (s := s.begin) hact, hexamined, htested, hexec, ht, State.pendingKept_of_eq hpend,
      hreply⟩

end Sys2Proof.Machine
end

section
/-! O31: START_RUN. -/

namespace Sys2Proof.Machine

/-! ## The checks (R149) -/

/-- The mask names no site, or one that is not configured. -/
theorem startMask_bad_iff (m : Byte) (n : Nat) :
    (m = 0 || decide (2 ^ n ≤ m.toNat)) = true ↔ m.toNat = 0 ∨ ∃ j, j < 8 ∧ m.getLsbD j = true ∧ n ≤ j := by
  have hzero : m = 0 ↔ m.toNat = 0 := by
    rw [← BitVec.toNat_inj]
    rfl
  simp only [Bool.or_eq_true, decide_eq_true_eq, hzero]
  refine or_congr_right ⟨fun h => ?_, fun ⟨j, _, hj, hn⟩ => ?_⟩
  · obtain ⟨j, hj, ht⟩ := Nat.exists_ge_and_testBit_of_ge_two_pow h
    refine ⟨j, ?_, ht, hj⟩
    by_contra hlt
    have hge := Nat.ge_two_pow_of_testBit ht
    have h8 : 2 ^ 8 ≤ 2 ^ j := Nat.pow_le_pow_right (by decide) (Nat.le_of_not_lt hlt)
    have := m.isLt
    omega
  · exact (Nat.pow_le_pow_right (by decide) hn).trans (Nat.ge_two_pow_of_testBit hj)

theorem State.runIdle_iff (s : State) : s.runIdle = true ↔ s.run.state = .idle := by simp [State.runIdle]

/-- The refusals in their order. -/
theorem State.startRefusal_state {s : State} (m : Byte) (h : s.run.state ≠ .idle ∨ s.plan.a.state ≠ .armed) :
    s.startRefusal m = some .state := by
  unfold State.startRefusal
  by_cases hi : s.run.state = .idle
  · simp [State.runIdle, hi, h.resolve_left (not_not.2 hi)]
  · simp [State.runIdle, hi]

theorem State.startRefusal_ready {s : State} (m : Byte) (hi : s.run.state = .idle) (ha : s.plan.a.state = .armed) :
    s.startRefusal m =
      if (m = 0 || decide (2 ^ s.sites.count ≤ m.toNat)) = true then some .range
      else if s.run.enabled = 0 ∨ 252 < s.results.records.length then some .state
      else if s.run.vac.latch = true ∨ s.run.lid.latch = true then some .interlocked
      else none := by
  have hidle : s.runIdle = true := s.runIdle_iff.2 hi
  unfold State.startRefusal
  simp only [hidle, ha, Bool.or_eq_true, Bool.not_true, Bool.false_eq_true, if_false, ne_eq,
    not_true_eq_false]
  rw [ite_or (s.run.enabled = 0)]
  rfl

theorem State.startRefusal_none {s : State} {m : Byte} (hi : s.run.state = .idle) (ha : s.plan.a.state = .armed)
    (hm : m.toNat ≠ 0) (hmask : ∀ j, j < 8 → m.getLsbD j = true → j < s.sites.count) (hen : s.run.enabled ≠ 0)
    (hroom : s.results.records.length ≤ 252) (hvac : s.run.vac.latch = false) (hlid : s.run.lid.latch = false) :
    s.startRefusal m = none := by
  have hgood : ¬ (m = 0 || decide (2 ^ s.sites.count ≤ m.toNat)) = true := by
    rw [startMask_bad_iff]
    rintro (hz | ⟨j, hj8, hbit, hge⟩)
    · exact hm hz
    · exact absurd (hmask j hj8 hbit) (Nat.not_lt.2 hge)
  rw [State.startRefusal_ready m hi ha, if_neg hgood, if_neg (not_or.2 ⟨hen, Nat.not_lt.2 hroom⟩),
    if_neg (by simp [hvac, hlid])]

/-- A START_RUN that a check refuses. -/
theorem startRun_refuses {s : State} {m : Byte} {code : Status} (h : s.startRefusal m = some code) :
    handle .startRun [m] s.begin = refuse s.begin code := by
  have h' : s.begin.startRefusal m = some code := h
  simp only [handle, serveStartRun, oneByte, h']

/-! ## The sites at the start -/

theorem SiteTable.start_get (t : SiteTable) (m : Byte) (i : Fin 8) :
    (t.start m).entries.get i = startSite m i.val (t.entries.get i) := by
  match i with
  | 0 | 1 | 2 | 3 | 4 | 5 | 6 | 7 => rfl

theorem SiteTable.start_not_retired (t : SiteTable) (m : Byte) (i : Fin 8) (why : RetireReason) :
    ((t.start m).entries.get i).state ≠ .retired why := by
  rw [SiteTable.start_get]
  unfold startSite
  simp only
  split <;> exact fun h => by cases h

/-- A mask that names a site names an ACTIVE one. -/
theorem SiteTable.start_some_active (t : SiteTable) {m : Byte} (hm : m.toNat ≠ 0) :
    ∃ i : Fin 8, m.getLsbD i.val = true ∧ ((t.start m).entries.get i).state = .active := by
  obtain ⟨j, hj⟩ := Nat.exists_testBit_of_ne_zero hm
  have hlt : j < 8 := by
    by_contra hlt
    have hge := Nat.ge_two_pow_of_testBit hj
    have h8 : 2 ^ 8 ≤ 2 ^ j := Nat.pow_le_pow_right (by decide) (Nat.le_of_not_lt hlt)
    have := m.isLt
    omega
  refine ⟨⟨j, hlt⟩, hj, ?_⟩
  rw [SiteTable.start_get]
  exact if_pos hj

/-! ## The filling from bank A's first record, with the counters frozen -/

/-- A place in the filling of a run that has just begun: nothing has changed but the window, the channels and the fetch,
and something waits or is in a channel, or the fetch stands before a record with next site 0. -/
structure State.Filling (s x : State) : Prop where
  run : x.run = s.run
  sites : x.sites = s.sites
  results : x.results = s.results
  counters : x.counters = s.counters
  time : x.time = s.time
  fetch : x.disp.fetch ≠ .idle
  fed : x.busy ∨ ∃ w i, x.disp.fetch = .reading w i 0 ∧ i < (x.plan.get w).records.length

/-- A making at a record with next site 0 appends an entry, where a configured site is ACTIVE. -/
theorem makeFrom_busy {s : State} {j : Fin 8} (hj : s.siteState j = .active) (hc : j.val < s.sites.count) (w : BankId)
    (r : StepRecord) (rs : List StepRecord) (i : Nat) : (makeFrom w (r :: rs) i 0 s).busy := by
  have happ : ∀ (t : State) (site : Site) (f : Fetch), ((t.appendFor w i r site).withFetch f).busy := fun t site f =>
    Or.inl (List.append_ne_nil_of_right_ne_nil _ (List.cons_ne_nil _ _))
  cases hr : r.scope with
  | common => rw [makeFrom_cons_common hr]; exact happ _ _ _
  | site =>
    rcases scanSites_cases (s.sitesFrom 0) s with ⟨l1, k, l2, -, -, -, he⟩ | ⟨hnone, -⟩
    · rw [makeFrom_cons_found hr he]; exact happ _ _ _
    · exact absurd hj (hnone j ((s.mem_sitesFrom 0 j).2 ⟨Nat.zero_le _, hc⟩))

/-- A making keeps a place in the filling, and something then waits or is in a channel. -/
theorem State.Filling.make {s x : State} (h : s.Filling x) (hask : s.run.haltAsked = false)
    (hf : s.countersStill) (hsites : ∀ j why, s.siteState j ≠ .retired why) {j : Fin 8} (hj : s.siteState j = .active)
    (hc : j.val < s.sites.count) (hm : x.canMake = true) : s.Filling x.make := by
  obtain ⟨-, -, w, i, n, hr⟩ := x.canMake_iff.1 hm
  have hst : ∀ k, x.siteState k = s.siteState k := fun k => by unfold State.siteState; rw [h.sites]
  have hmade := State.made_fetchMake hm
  have hbusy : x.fetchMake.busy := by
    rcases h.fed with hb | ⟨w', i', hr', hi'⟩
    · refine hb.imp (fun hne hnil => ?_) fun ⟨c, hb⟩ => ⟨c, ?_⟩
      · obtain ⟨e, he⟩ := List.exists_mem_of_ne_nil _ hne
        have hmem := hmade.kept e he
        rw [hnil] at hmem
        exact absurd hmem List.not_mem_nil
      · rw [State.instIn_of_chans x.fetchMake_chans]; exact hb
    · rw [State.fetchMake_reading hr', List.drop_eq_getElem_cons hi']
      exact makeFrom_busy (by rw [hst]; exact hj) (by rw [h.sites]; exact hc) _ _ _ _
  have hstill : x.fetchMake.countersStill := by
    unfold State.countersStill; rw [State.fetchMake_counters, h.counters]; exact hf
  obtain ⟨hcalm, hb⟩ := State.closeEvent_busy (s := x.fetchMake) (by rw [State.fetchMake_run, h.run]; exact hask)
    (Or.inl (Or.inl hstill)) hbusy
  exact {
    run := hcalm.run.trans (x.fetchMake_run.trans h.run)
    sites := hcalm.sites.trans ((hmade.sites fun k why => by rw [hst]; exact hsites k why).trans h.sites)
    results := hcalm.results.trans (x.fetchMake_results.trans h.results)
    counters := (hcalm.still hstill).trans (x.fetchMake_counters.trans h.counters)
    time := hcalm.time.trans (x.fetchMake_time.trans h.time)
    fetch := fun hidle => by
      have hidle' : x.fetchMake.disp.fetch = .idle := hcalm.fetch.symm.trans hidle
      rw [State.fetchMake_reading hr] at hidle'
      exact makeFrom_fetch _ _ _ _ _ hidle'
    fed := Or.inl hb }

theorem State.Filling.fill {s : State} (h : s.Filling s) (hask : s.run.haltAsked = false)
    (hf : s.countersStill) (hsites : ∀ j why, s.siteState j ≠ .retired why) {j : Fin 8} (hj : s.siteState j = .active)
    (hc : j.val < s.sites.count) : s.Filling s.fill :=
  State.fill_rel (R := fun x y => s.Filling x → s.Filling y) (fun _ => id) (fun f g hx => g (f hx))
    (fun _ hm hx => hx.make hask hf hsites hj hc hm) s h

/-! ## Where the fetch comes to after the bank boundaries -/

/-- With no transient set and the fetch not at END the close of an event changes nothing. -/
theorem State.closeEvent_stands {s : State} (h : s.transientsClear) (hf : ∀ w, s.disp.fetch ≠ .atEnd w) :
    s.closeEvent = s := by
  have hself : s.withExamDue false = s := State.withExamDue_self h.1
  rw [State.closeEvent_of_quiet h.2 (Or.inl h.1), hself]
  refine State.testDone_of_not ?_
  rw [Bool.eq_false_iff, Ne, State.completed_iff]
  exact fun hd => hd.2.1.elim hf

/-- A starved fetch: no close and no filling changes anything. -/
theorem State.close_starved {s : State} {w : BankId} (h : s.transientsClear) (hf : s.disp.fetch = .starved w) :
    s.closeEvent.fill = s := by
  rw [State.closeEvent_stands h fun v hv => by rw [hf] at hv; cases hv]
  exact State.fill_of_not_canMake (State.canMake_of_not_reading fun v i n hv => by rw [hf] at hv; cases hv)

/-- A fetch at END with nothing waiting or running: the run is DONE (R151), and no window is filled. -/
theorem State.close_ended {s : State} {w : BankId} (h : s.transientsClear) (hact : s.run.state = .active)
    (hf : s.disp.fetch = .atEnd w) (hw : s.disp.window = []) (hc : ∀ c, (s.chan c).running = none) :
    ∃ r l, s.closeEvent.fill = ((s.withRun { s.run with state := .done }).withRelays r).withLink l ∧
      Notice.runDone.isIn l.pendingSet = true := by
  have hself : s.withExamDue false = s := State.withExamDue_self h.1
  have hdone := State.testDone_of_completed_eq (s.completed_iff.2 ⟨hact, ⟨w, hf⟩, hw, hc⟩)
  have hclose : s.closeEvent = s.testDone := by rw [State.closeEvent_of_quiet h.2 (Or.inl h.1), hself]
  refine ⟨s.testDone.relays, s.link.raise .runDone, ?_, ?_⟩
  · rw [hclose, ← hdone]
    refine State.fill_of_not_canMake (State.canMake_of_not_active ?_)
    rw [hdone]
    exact fun hx => by cases hx
  · rw [Link.isIn_raise]; simp

/-- The bank that the fetch has entered and passes at once, in an ACTIVE run. -/
def Bank.passed (x : Bank) : Bank := if x.live = 0 then Bank.reset else { x with state := .draining }

/-- A bank entered and passed in the same event drains at once where its live count is 0 (R16, R17). -/
theorem State.drainBank_activate {s : State} (hact : s.run.state = .active) (w : BankId) :
    ∃ l, (s.activate w).drainBank w =
        ((s.withPlan (s.plan.set w (s.plan.get w).passed)).withFetch (.reading w 0 0)).withLink l ∧
      ((s.plan.get w).live = 0 → l = s.link.raise .bankDone) ∧
      ∀ k : Notice, k.isIn s.link.pendingSet = true → k.isIn l.pendingSet = true := by
  set t := (s.activate w).withPlan ((s.activate w).plan.set w { (s.activate w).plan.get w with state := .draining })
    with ht
  have hs : (s.activate w).drainBank w = t.drainIfDone w := rfl
  have hget : t.plan.get w = { s.plan.get w with state := .draining } := by simp [t, State.activate, State.withFetch]
  have hset : ∀ x : Bank, t.plan.set w x = s.plan.set w x := by cases w <;> exact fun _ => rfl
  rw [hs]
  unfold Bank.passed
  by_cases hl : (s.plan.get w).live = 0
  · refine ⟨s.link.raise .bankDone, ?_, fun _ => rfl, s.pendingKept_raise .bankDone⟩
    rw [State.drainIfDone_pos (s := t) ⟨hact, by rw [hget], by rw [hget]; exact hl⟩, if_pos hl, State.emptyBank, hset]
    rfl
  · refine ⟨s.link, ?_, fun h => absurd h hl, s.pendingKept_refl⟩
    rw [State.drainIfDone_neg (s := t) (fun h => hl (by rw [hget] at h; exact h.2.2)), if_neg hl, ← hset]
    cases w <;> rfl

/-- The fetch enters and passes a last bank: END after a final bank, STARVED otherwise (R29). -/
theorem State.passLast_activate {s : State} (hact : s.run.state = .active) (w : BankId) :
    ∃ l, (s.activate w).passLast w =
        ((s.withPlan (s.plan.set w (s.plan.get w).passed)).withDisp
          (if (s.plan.get w).final = true then { s.disp with fetch := .atEnd w }
          else { s.disp with fetch := .starved w, starved := true })).withLink l ∧
      ((s.plan.get w).live = 0 → Notice.bankDone.isIn l.pendingSet = true) ∧
      ((s.plan.get w).final = false → Notice.starved.isIn l.pendingSet = true) ∧
      ∀ k : Notice, k.isIn s.link.pendingSet = true → k.isIn l.pendingSet = true := by
  obtain ⟨l, he, hb, hk⟩ := State.drainBank_activate hact w
  have hfinal : ((s.activate w).plan.get w).final = (s.plan.get w).final := by simp [State.activate, State.withFetch]
  have hbank : (s.plan.get w).live = 0 → Notice.bankDone.isIn l.pendingSet = true := fun h => by
    rw [hb h, Link.isIn_raise]; simp
  unfold State.passLast
  rw [hfinal, he]
  cases hf : (s.plan.get w).final
  · refine ⟨l.raise .starved, rfl, fun h => ?_, fun _ => ?_, fun k hs => ?_⟩ <;> rw [Link.isIn_raise]
    · rw [hbank h]; rfl
    · simp
    · rw [hk k hs]; rfl
  · exact ⟨l, rfl, hbank, fun h => (by cases h), hk⟩

/-! ## Bank A entered -/

theorem State.enterBank_records {s : State} {w : BankId} (h : (s.plan.get w).records ≠ []) :
    s.enterBank w = s.activate w := by
  have hr : ((s.activate w).plan.get w).records = (s.plan.get w).records := by simp [State.activate, State.withFetch]
  unfold State.enterBank
  simp only
  rw [if_neg (by rw [hr]; exact h)]

/-- A bank with no records that is final, or whose other bank is not ARMED, is the last one passed (R29). -/
theorem State.enterBank_last {s : State} {w : BankId} (h : (s.plan.get w).records = [])
    (hl : (s.plan.get w).final = true ∨ (s.plan.get (otherBank w)).state ≠ .armed) :
    s.enterBank w = (s.activate w).passLast w := by
  have hb : (s.activate w).plan.get w = { s.plan.get w with state := .active } := by
    simp [State.activate, State.withFetch]
  have ho : (s.activate w).plan.get (otherBank w) = s.plan.get (otherBank w) := by
    simp [State.activate, State.withFetch, otherBank_ne]
  unfold State.enterBank State.passEnd
  simp only
  rw [if_pos (by rw [hb]; exact h), hb, ho]
  rcases hl with hl | hl
  · rw [if_pos hl]
  · rw [if_neg hl, ite_self]

/-- Bank A entered with no records, not final and with live count 0, before an ARMED bank B: A is EMPTY with BANK_DONE
raised, and the fetch enters B, or passes it where it has no records (R29). -/
theorem State.enterBank_on {s : State} (hact : s.run.state = .active) (h : s.plan.a.records = [])
    (hl : s.plan.a.live = 0) (hf : s.plan.a.final = false) (hb : s.plan.b.state = .armed) :
    s.enterBank .a =
      if s.plan.b.records = [] then (((s.emptyBank .a).raise .bankDone).activate .b).passLast .b
      else ((s.emptyBank .a).raise .bankDone).activate .b := by
  obtain ⟨l, hd, hlink, -⟩ := State.drainBank_activate hact .a
  have hl' : (s.plan.get .a).live = 0 := hl
  rw [hlink hl', Bank.passed, if_pos hl'] at hd
  have ha : (s.activate .a).plan = { s.plan with a := { s.plan.a with state := .active } } := rfl
  unfold State.enterBank State.passEnd
  simp only [ha, Plan.get, otherBank, h, hf, hb, hd, if_true, Bool.false_eq_true, if_false]
  rfl

/-- Bank A entered with no records and live count 0, as the last bank: it is EMPTY, and the fetch is at END or STARVED. -/
theorem State.enterBank_empty {s : State} (hact : s.run.state = .active) (h : s.plan.a.records = [])
    (hl : s.plan.a.live = 0) (hlast : s.plan.a.final = true ∨ s.plan.b.state ≠ .armed) :
    ∃ l, s.enterBank .a =
        ((s.withPlan { s.plan with a := Bank.reset }).withDisp
          (if s.plan.a.final = true then { s.disp with fetch := .atEnd .a }
          else { s.disp with fetch := .starved .a, starved := true })).withLink l ∧
      Notice.bankDone.isIn l.pendingSet = true ∧ (s.plan.a.final = false → Notice.starved.isIn l.pendingSet = true) := by
  obtain ⟨l, he, hdone, hst, -⟩ := State.passLast_activate hact .a
  have hp : (s.plan.get .a).passed = Bank.reset := if_pos hl
  refine ⟨l, ?_, hdone hl, hst⟩
  rw [State.enterBank_last (w := .a) h hlast, he, hp]
  rfl

/-- Bank A and an ARMED bank B entered and passed, neither with records. -/
theorem State.enterBank_both {s : State} (hact : s.run.state = .active) (h : s.plan.a.records = [])
    (hl : s.plan.a.live = 0) (hf : s.plan.a.final = false) (hb : s.plan.b.state = .armed) (hr : s.plan.b.records = []) :
    ∃ l, s.enterBank .a =
        ((s.withPlan { a := Bank.reset, b := s.plan.b.passed }).withDisp
          (if s.plan.b.final = true then { s.disp with fetch := .atEnd .b }
          else { s.disp with fetch := .starved .b, starved := true })).withLink l ∧
      Notice.bankDone.isIn l.pendingSet = true ∧ (s.plan.b.final = false → Notice.starved.isIn l.pendingSet = true) := by
  obtain ⟨l, he, -, hst, hk⟩ := State.passLast_activate (s := (s.emptyBank .a).raise .bankDone) hact .b
  refine ⟨l, ?_, hk _ (by rw [State.isIn_raise]; simp), hst⟩
  rw [State.enterBank_on hact h hl hf hb, if_pos hr, he]
  rfl

/-- Bank A passed and an ARMED bank B with records entered: the event's close changes nothing. -/
theorem State.close_entered {s : State} (hclear : s.transientsClear) (hact : s.run.state = .active)
    (h : s.plan.a.records = []) (hl : s.plan.a.live = 0) (hf : s.plan.a.final = false) (hb : s.plan.b.state = .armed)
    (hr : s.plan.b.records ≠ []) :
    (s.enterBank .a).closeEvent =
      ((s.withPlan { a := Bank.reset, b := { s.plan.b with state := .active } }).withDisp
        { s.disp with fetch := .reading .b 0 0 }).raise .bankDone := by
  rw [State.enterBank_on hact h hl hf hb, if_neg hr]
  exact State.closeEvent_stands (s := ((s.emptyBank .a).raise .bankDone).activate .b) hclear fun w hw => by cases hw

/-- Where bank A has no records its end is passed, and BANK_DONE raised, in the same event. -/
theorem State.enterBank_bankDone {s : State} (hact : s.run.state = .active) (h : s.plan.a.records = [])
    (hl : s.plan.a.live = 0) : Notice.bankDone.isIn (s.enterBank .a).link.pendingSet = true := by
  by_cases hlast : s.plan.a.final = true ∨ s.plan.b.state ≠ .armed
  · obtain ⟨l, he, hdone, -⟩ := State.enterBank_empty hact h hl hlast
    rw [he]; exact hdone
  · obtain ⟨hf, hb⟩ := not_or.1 hlast
    have hf' : s.plan.a.final = false := Bool.eq_false_of_not_eq_true hf
    by_cases hr : s.plan.b.records = []
    · obtain ⟨l, he, hdone, -⟩ := State.enterBank_both hact h hl hf' (not_not.1 hb) hr
      rw [he]; exact hdone
    · rw [State.enterBank_on hact h hl hf' (not_not.1 hb), if_neg hr]
      exact (State.isIn_raise _ .bankDone .bankDone).trans (by simp)

/-! ## The close of a START_RUN that has passed the empty banks -/

section Passed

variable {s : State} (hclear : s.transientsClear) (hact : s.run.state = .active) (h : s.plan.a.records = [])
  (hl : s.plan.a.live = 0)

include hclear hact h hl

theorem State.close_final (hf : s.plan.a.final = true) (hw : s.disp.window = [])
    (hc : ∀ c, (s.chan c).running = none) :
    ∃ r l, (s.enterBank .a).closeEvent.fill =
        ((((s.withPlan { s.plan with a := Bank.reset }).withDisp { s.disp with fetch := .atEnd .a }).withRun
          { s.run with state := .done }).withRelays r).withLink l ∧
      Notice.runDone.isIn l.pendingSet = true := by
  obtain ⟨k, he, -⟩ := State.enterBank_empty hact h hl (Or.inl hf)
  rw [if_pos hf] at he
  obtain ⟨r, l, hclose, hdone⟩ := State.close_ended (s := s.enterBank .a) (w := .a)
    (by rw [he]; exact hclear) (by rw [he]; exact hact) (by rw [he]; rfl) (by rw [he]; exact hw) (by rw [he]; exact hc)
  refine ⟨r, l, ?_, hdone⟩
  rw [hclose, he]
  rfl

theorem State.close_not_final (hf : s.plan.a.final = false) (hb : s.plan.b.state ≠ .armed) :
    ∃ l, (s.enterBank .a).closeEvent.fill =
        ((s.withPlan { s.plan with a := Bank.reset }).withDisp
          { s.disp with fetch := .starved .a, starved := true }).withLink l ∧
      Notice.starved.isIn l.pendingSet = true := by
  obtain ⟨l, he, -, hst⟩ := State.enterBank_empty hact h hl (Or.inr hb)
  rw [if_neg (by simp [hf])] at he
  refine ⟨l, ?_, hst hf⟩
  rw [State.close_starved (s := s.enterBank .a) (w := .a) (by rw [he]; exact hclear) (by rw [he]; rfl), he]

theorem State.close_both_final (hf : s.plan.a.final = false) (hb : s.plan.b.state = .armed)
    (hr : s.plan.b.records = []) (hbf : s.plan.b.final = true) (hw : s.disp.window = [])
    (hc : ∀ c, (s.chan c).running = none) :
    ∃ r l, (s.enterBank .a).closeEvent.fill =
        ((((s.withPlan { a := Bank.reset, b := s.plan.b.passed }).withDisp { s.disp with fetch := .atEnd .b }).withRun
          { s.run with state := .done }).withRelays r).withLink l ∧
      Notice.runDone.isIn l.pendingSet = true := by
  obtain ⟨k, he, -⟩ := State.enterBank_both hact h hl hf hb hr
  rw [if_pos hbf] at he
  obtain ⟨r, l, hclose, hdone⟩ := State.close_ended (s := s.enterBank .a) (w := .b)
    (by rw [he]; exact hclear) (by rw [he]; exact hact) (by rw [he]; rfl) (by rw [he]; exact hw) (by rw [he]; exact hc)
  refine ⟨r, l, ?_, hdone⟩
  rw [hclose, he]
  rfl

theorem State.close_both_starved (hf : s.plan.a.final = false) (hb : s.plan.b.state = .armed)
    (hr : s.plan.b.records = []) (hbf : s.plan.b.final = false) :
    ∃ l, (s.enterBank .a).closeEvent.fill =
        ((s.withPlan { a := Bank.reset, b := s.plan.b.passed }).withDisp
          { s.disp with fetch := .starved .b, starved := true }).withLink l ∧
      Notice.starved.isIn l.pendingSet = true := by
  obtain ⟨l, he, -, hst⟩ := State.enterBank_both hact h hl hf hb hr
  rw [if_neg (by simp [hbf])] at he
  refine ⟨l, ?_, hst hbf⟩
  rw [State.close_starved (s := s.enterBank .a) (w := .b) (by rw [he]; exact hclear) (by rw [he]; rfl), he]

end Passed

/-! ## The statement -/

/-- An accepted START_RUN. -/
theorem startRun_accepts {s : State} {m : Byte} (h : s.startRefusal m = none) :
    handle .startRun [m] s.begin = accept (s.begin.startRun m) [] := by
  have h' : s.begin.startRefusal m = none := h
  simp only [handle, serveStartRun, oneByte, h']

/-- The run begun: ACTIVE, the masked sites ACTIVE and the others OFF (R150). -/
def State.begun (s : State) (m : Byte) : State :=
  (s.begin.withRun { s.run with state := .active }).withSites (s.sites.start m)

theorem State.startRun_eq (s : State) (m : Byte) :
    s.begin.startRun m = (((s.begun m).enterBank .a).closeEvent).fill := rfl

/-- A START_RUN refused. -/
theorem startRun_refused (tag : Byte) (p : List Byte) (s : State) (hp : p.length ≤ 1024) (hopen : s.linkOpen) :
    (p.length ≠ 1 → exec (.startRun tag p) s = .next (s.begin.replying 0xB0 tag .length [])) ∧
    ∀ m, p = [m] → ∀ code, s.startRefusal m = some code →
      exec (.startRun tag p) s = .next (s.begin.replying 0xB0 tag code []) := by
  refine ⟨fun hlen => exec_refused (r := .startRun) hp hopen (by simp [handle, serveStartRun, oneByte_ne hlen]),
    fun m hpm code hcode => ?_⟩
  subst hpm
  exact exec_refused (r := .startRun) hp hopen (startRun_refuses hcode)

/-- The filling from a bank's first record in a run just begun, with the counters frozen. -/
theorem State.begun_filling {s : State} {m : Byte} (h : s.transientsClear) (hf : s.countersStill) (hm : m.toNat ≠ 0)
    (hmask : ∀ j, j < 8 → m.getLsbD j = true → j < s.sites.count) (hrec : s.plan.a.records ≠ []) :
    ((s.begun m).activate .a).Filling ((s.begun m).activate .a).fill := by
  have hstate : ∀ j, ((s.begun m).activate .a).siteState j = ((s.sites.start m).entries.get j).state := fun j => rfl
  obtain ⟨j, hbit, hj⟩ := s.sites.start_some_active hm
  have hplace : ((s.begun m).activate .a).Filling ((s.begun m).activate .a) :=
    ⟨rfl, rfl, rfl, rfl, rfl, (fun hx => by cases hx), Or.inr ⟨.a, 0, rfl, List.length_pos_iff.2 hrec⟩⟩
  exact hplace.fill h.2 hf (fun k why => by rw [hstate]; exact s.sites.start_not_retired m k why)
    (by rw [hstate]; exact hj) (hmask j.val j.isLt hbit)

/-- Settles O31: the checks in order; bank A entered or passed, and what the close of the event then finds. -/
theorem startRunServed : Obligations.StartRunServed := by
  unfold Obligations.StartRunServed
  refine ⟨fun tag p s hp hopen => ?_, fun tag m s hopen hclear hidle harm hm hmask hen hroom hvac hlid => ?_⟩
  · obtain ⟨hlength, hcheck⟩ := startRun_refused tag p s hp hopen
    refine ⟨hlength, fun m hpm => ?_⟩
    intro mask
    have hiff : (m = 0 || decide (2 ^ s.sites.count ≤ m.toNat)) = true ↔ mask := startMask_bad_iff m _
    refine ⟨fun h => ?_, fun hi ha hbad => ?_, fun hi ha hgood h => ?_, fun hi ha hgood hen hroom h => ?_⟩ <;>
      refine hcheck m hpm _ ?_
    · exact State.startRefusal_state m h
    · rw [State.startRefusal_ready m hi ha, if_pos (hiff.2 hbad)]
    · rw [State.startRefusal_ready m hi ha, if_neg (fun hx => hgood (hiff.1 hx)), if_pos h]
    · rw [State.startRefusal_ready m hi ha, if_neg (fun hx => hgood (hiff.1 hx)),
        if_neg (not_or.2 ⟨hen, Nat.not_lt.2 hroom⟩), if_pos h]
  · have hnone := State.startRefusal_none hidle harm hm hmask hen hroom hvac hlid
    obtain ⟨t, hexec, ht, hpend, hreply⟩ := exec_accepted (r := .startRun) (tag := tag) (by simp) hopen
      (startRun_accepts hnone)
    rw [State.startRun_eq] at ht hpend
    have hact : (s.begun m).run.state = .active := rfl
    refine ⟨s.sites.start m, t, hexec, hreply, rfl, fun i => s.sites.start_get m i, ?_⟩
    intro begun empty
    refine ⟨fun hrec => ?_, fun hrec hlive hwin hchans => ?_⟩
    · have hent : ((s.begun m).enterBank .a).closeEvent = (s.begun m).activate .a := by
        rw [State.enterBank_records (s := s.begun m) (w := .a) hrec]
        exact State.closeEvent_stands hclear fun w hw => by cases hw
      rw [hent] at ht
      refine ⟨ht, fun hstill => ?_⟩
      obtain ⟨hrun, hsites, hres, hcnt, htime, hfetch, -⟩ := State.begun_filling hclear hstill hm hmask hrec
      rw [ht]
      exact ⟨hrun, hsites, hfetch, hres, hcnt, htime⟩
    · have hbank : Notice.bankDone.isIn t.link.pendingSet = true := by
        rw [hpend]
        exact State.pendingKept_fill _ _ (State.enterBank_bankDone (s := s.begun m) hact hrec hlive)
      refine ⟨hbank, fun hfin => ?_, fun hfin hb hbrec => ?_, fun hfin hb hbrec => ?_, fun hfin hb => ?_⟩
      · obtain ⟨r, k, hclose, hdone⟩ := State.close_final (s := s.begun m) hclear hact hrec hlive hfin hwin hchans
        rw [hpend, ht, hclose]
        simp [State.begun, Bank.reset, empty, hdone]
      · rw [State.close_entered (s := s.begun m) hclear hact hrec hlive hfin hb hbrec] at ht
        exact ht
      · cases hbfin : s.plan.b.final
        · obtain ⟨k, hclose, hstarved⟩ :=
            State.close_both_starved (s := s.begun m) hclear hact hrec hlive hfin hb hbrec hbfin
          rw [hpend, ht, hclose]
          refine ⟨rfl, ?_⟩
          simp [State.begun, hstarved]
        · obtain ⟨r, k, hclose, hdone⟩ :=
            State.close_both_final (s := s.begun m) hclear hact hrec hlive hfin hb hbrec hbfin hwin hchans
          rw [hpend, ht, hclose]
          refine ⟨rfl, ?_⟩
          simp [State.begun, hdone]
      · obtain ⟨k, hclose, hstarved⟩ := State.close_not_final (s := s.begun m) hclear hact hrec hlive hfin hb
        rw [hpend, ht, hclose]
        simp [State.begun, Bank.reset, empty, hstarved]

end Sys2Proof.Machine
end

section
/-! READ_NODES and CLEAR_CLOSE_COUNTS (R55, R56): O19. -/

namespace Sys2Proof.Machine

/-! ## Link bytes -/

/-- Two bytes read as an integer go out as they came in. -/
theorem leBytes_two (x y : Byte) : leBytes 2 (x.toNat + 256 * y.toNat) = [x, y] := by
  have hx := x.isLt
  have hy := y.isLt
  simp only [leBytes, List.cons.injEq, and_true]
  constructor <;> apply BitVec.eq_of_toNat_eq <;> simp <;> omega

theorem le_two (x y : Byte) : le [x, y] = x.toNat + 256 * y.toNat := by simp [le]

theorem leBytes_three (v : Nat) :
    leBytes 3 v = [BitVec.ofNat 8 v, BitVec.ofNat 8 (v / 256), BitVec.ofNat 8 (v / 65536)] := by
  have hlow : ∀ u : Nat, BitVec.ofNat 8 (u % 256) = BitVec.ofNat 8 u := fun u =>
    BitVec.eq_of_toNat_eq (by simp)
  simp only [leBytes, hlow, Nat.div_div_eq_div_mul]

/-! ## The clearing of close counts -/

theorem clearCount_reset (first last : Nat) (n : Node) : clearCount first last n .reset = .reset := by
  unfold clearCount
  split <;> rfl

theorem clampNat_eq {lo hi : Nat} (h : lo ≤ hi) (n : Nat) : clampNat lo hi n = max lo (min hi n) := by
  unfold clampNat
  split
  · omega
  · split <;> omega

theorem wordByte_ne {p : List Byte} (h : p.length ≠ 3) : wordByte p = none := by
  match p with
  | [] | [_] | [_, _] => rfl
  | [_, _, _] => exact absurd rfl h
  | _ :: _ :: _ :: _ :: _ => rfl

theorem twoWords_ne {p : List Byte} (h : p.length ≠ 4) : twoWords p = none := by
  match p with
  | [] | [_] | [_, _] | [_, _, _] => rfl
  | [_, _, _, _] => exact absurd rfl h
  | _ :: _ :: _ :: _ :: _ :: _ => rfl

theorem serveReadNodes_eq (x y z : Byte) (s : State) :
    serveReadNodes [x, y, z] s =
      if 4095 < x.toNat + 256 * y.toNat then refuse s .range
      else
        let start := x.toNat + 256 * y.toNat
        let k := min (max 1 (min 128 z.toNat)) (4096 - start)
        accept s ([x, y, BitVec.ofNat 8 k] ++
          (List.range k).flatMap fun i => nodeBytes (s.relays.nodes.get (start + i))) := by
  unfold serveReadNodes
  simp only [wordByte, le_two, leBytes_two, reportedNodes, clampNat_eq (by decide : 1 ≤ 128), List.length_map,
    List.length_range, List.flatMap_map]
  rfl

theorem serveClearCloseCounts_eq (w x y z : Byte) (s : State) :
    serveClearCloseCounts [w, x, y, z] s =
      if 4095 < y.toNat + 256 * z.toNat ∨ y.toNat + 256 * z.toNat < w.toNat + 256 * x.toNat then refuse s .range
      else accept (s.withNodes (s.relays.nodes.rewrite
        (clearCount (w.toNat + 256 * x.toNat) (y.toNat + 256 * z.toNat)))) [w, x, y, z] := by
  unfold serveClearCloseCounts
  simp only [twoWords, le_two, leBytes_two, Bool.or_eq_true, decide_eq_true_eq]
  rfl

/-- An accepted request that leaves the link with nothing else to send: its effect, and its reply going out (R170). -/
theorem exec_accepted_sending {s u : State} {r : Request} {tag : Byte} {p body : List Byte} (hp : p.length ≤ 1024)
    (h : s.linkOpen) (hr : handle r p s.begin = accept u body) (hs : u.link.sending = none)
    (hw : u.link.waiting = none) (hd : u.link.due = []) :
    exec (r.command tag p) s = .next (u.replying (requestCode r + 0x80) tag .ok body) := by
  rw [exec_served r tag p hp h (by rw [hr]; exact hs) (by rw [hr]; exact hw) (by rw [hr]; exact hd), hr]
  rfl

/-- Settles O19: the entries are read and laid out node by node; the clearing is a rewrite of the table. -/
theorem nodeTableRequests : Obligations.NodeTableRequests := by
  unfold Obligations.NodeTableRequests
  intro tag p s hp hopen chan line row
  have hrow : ∀ e, nodeBytes e = row e := by
    intro e
    obtain ⟨x, k⟩ := e
    unfold nodeBytes
    rw [leBytes_three]
    cases x with
    | free c => cases c <;> rfl
    | closing _ l | held _ l | parked _ l => cases l <;> rfl
    | opening _ => rfl
  refine ⟨fun hne => ?_, fun x y z hxyz => ?_, fun hne => ?_, fun w x y z hwxyz hwf => ?_⟩
  · exact exec_refused (r := .readNodes) hp hopen (by simp only [handle, serveReadNodes, wordByte_ne hne])
  · subst hxyz
    intro start k
    have hserve := serveReadNodes_eq x y z s.begin
    by_cases hr : 4095 < start
    · rw [if_pos hr] at hserve ⊢
      exact exec_refused (r := .readNodes) hp hopen hserve
    · rw [if_neg hr] at hserve ⊢
      simp only [hrow] at hserve
      exact exec_unchanged (r := .readNodes) hp hopen hserve
  · exact exec_refused (r := .clearCloseCounts) hp hopen (by simp only [handle, serveClearCloseCounts, twoWords_ne hne])
  · subst hwxyz
    intro first last
    have hserve := serveClearCloseCounts_eq w x y z s.begin
    split
    next hr =>
      rw [if_pos hr] at hserve
      exact exec_refused (r := .clearCloseCounts) hp hopen hserve
    next hr =>
      rw [if_neg hr] at hserve
      obtain ⟨-, hwait, hsend, hdue, -⟩ := id hopen
      exact ⟨_, exec_accepted_sending (r := .clearCloseCounts) hp hopen hserve hsend hwait hdue,
        NodeTable.wf_rewrite hwf _, fun n => NodeTable.get_rewrite hwf _ (clearCount_reset first last) n⟩

end Sys2Proof.Machine
end

section
/-! RESET_PART (R54, R162, R163, R176): O36. -/

namespace Sys2Proof.Machine

/-! ## The latches outside an ACTIVE run (R160) -/

/-- A sense line as CLEAR_INTERLOCK leaves it. -/
def Sense.cleared (x : Sense) : Sense :=
  if x.latch = true then
    (if x.present = true then { x with latch := false } else { x with timer := none, latch := true })
  else x

/-- The line's latch is set, and would be set again at once. -/
def Sense.stays (x : Sense) : Bool := x.latch && !x.present

/-- The link, with INTERLOCK raised or not. -/
def Link.raiseIf (l : Link) (b : Bool) : Link := if b = true then l.raise .interlock else l

theorem Link.isIn_raiseIf (l : Link) (b : Bool) (k : Notice) :
    k.isIn (l.raiseIf b).pendingSet = true ↔ k.isIn l.pendingSet = true ∨ k = .interlock ∧ b = true := by
  cases b <;> simp [Link.raiseIf, Link.isIn_raise]

/-- With every kind masked a raise makes no notice due: the pending set alone changes (R171). -/
theorem Link.raiseIf_masked {l : Link} (h : l.enableMask = 0) (b : Bool) :
    ∃ m, l.raiseIf b = { l with pendingSet := m } := by
  cases b
  · exact ⟨_, rfl⟩
  · simp only [Link.raiseIf, if_true]
    unfold Link.raise
    split
    · exact ⟨_, rfl⟩
    · exact ⟨l.pendingSet ||| Notice.interlock.mask, by simp [Notice.isIn, h]⟩

/-- CLEAR_INTERLOCK's treatment of one line where there is no run to halt: INTERLOCK is raised for a latch set again. -/
theorem State.clearLatch_quiet {s : State} (hr : s.run.state ≠ .active) (l : SenseLine) :
    s.clearLatch l = (s.withSense l (s.sense l).cleared).withLink (s.link.raiseIf (s.sense l).stays) := by
  unfold State.clearLatch
  rcases hx : s.sense l with ⟨present, timer, latch⟩
  have hlatched : s.setLatch l = s.latched l := by
    rw [State.setLatch_eq, State.halt_of_not_active (by rw [State.latched_run_state]; exact hr)]
  unfold State.latched at hlatched
  rw [hx] at hlatched
  have hself : s.withSense l ⟨present, timer, latch⟩ = s := by rw [← hx]; cases l <;> rfl
  cases latch
  · exact hself.symm.trans (by cases l <;> rfl)
  · cases present
    · exact hlatched.trans (by cases l <;> rfl)
    · cases l <;> rfl

/-- The treatment of both lines, VAC_OK first. -/
theorem State.clearLatches_quiet {s : State} (hr : s.run.state ≠ .active) :
    (s.clearLatch .vacOk).clearLatch .lidDown =
      (s.withRun { s.run with vac := s.run.vac.cleared, lid := s.run.lid.cleared }).withLink
        ((s.link.raiseIf s.run.vac.stays).raiseIf s.run.lid.stays) := by
  have hvac := State.clearLatch_quiet hr .vacOk
  rw [State.clearLatch_quiet (s := s.clearLatch .vacOk) (by rw [hvac]; exact hr) .lidDown, hvac]
  rfl

/-! ## RESET_PART -/

theorem exists_senseLine {p : SenseLine → Prop} : (∃ l, p l) ↔ p .vacOk ∨ p .lidDown :=
  ⟨fun ⟨l, h⟩ => by cases l; exacts [.inl h, .inr h], fun h => h.elim (⟨_, ·⟩) (⟨_, ·⟩)⟩

/-- The reset of every block with the treatment of the latches: with every kind masked the link has no notice due, and
INTERLOCK alone may be pending. -/
theorem State.resetBlocks_latches (s : State) :
    ∃ m, (s.resetBlocks.clearLatch .vacOk).clearLatch .lidDown =
        (s.resetBlocks.withRun
          { s.resetBlocks.run with vac := s.run.vac.cleared, lid := s.run.lid.cleared }).withLink
            { s.link.resetPart with pendingSet := m } ∧
      ∀ k : Notice, k.isIn m = true ↔
        k = .interlock ∧ ∃ l, (s.sense l).latch = true ∧ (s.sense l).present = false := by
  obtain ⟨m, hm⟩ := Link.raiseIf_masked (l := s.link.resetPart) rfl s.run.vac.stays
  obtain ⟨n, hn⟩ := Link.raiseIf_masked (l := { s.link.resetPart with pendingSet := m }) rfl s.run.lid.stays
  have hboth := (congrArg (Link.raiseIf · s.run.lid.stays) hm).trans hn
  refine ⟨n, ?_, fun k => ?_⟩
  · rw [State.clearLatches_quiet (fun h => by cases h)]
    exact congrArg _ hboth
  · have hnone : k.isIn s.link.resetPart.pendingSet = false := by simp [Notice.isIn, Link.resetPart]
    have hraised : n = ((s.link.resetPart.raiseIf s.run.vac.stays).raiseIf s.run.lid.stays).pendingSet :=
      (congrArg Link.pendingSet hboth).symm
    rw [hraised, Link.isIn_raiseIf, Link.isIn_raiseIf, hnone, exists_senseLine]
    simp [Sense.stays, State.sense, ← and_or_left]

/-- Settles O36: the emergency open with T_rel as it stands, every other block's reset value, and the latches treated
with every notice masked. -/
theorem resetPartServed : Obligations.ResetPartServed := by
  unfold Obligations.ResetPartServed
  intro tag p s hp hopen hwf
  refine ⟨fun hne => exec_refused (r := .resetPart) hp hopen (by simp only [handle, serveResetPart, noOperand_ne hne]),
    fun hnil => ?_⟩
  subst hnil
  obtain ⟨-, hwait, hsend, -, -⟩ := id hopen
  obtain ⟨m, hu, hpending⟩ := s.begin.resetBlocks_latches
  have hserve : handle .resetPart [] s.begin = accept _ [] := congrArg (accept · []) hu
  have hexec := exec_accepted_sending (tag := tag) hp hopen hserve hsend hwait rfl
  refine ⟨_, hexec, Or.inr rfl, rfl, rfl, rfl, rfl, rfl, rfl, rfl, rfl, rfl, rfl, rfl, fun l => ?_, ?_, rfl,
    rfl, rfl, rfl, rfl, rfl, rfl, rfl, emergencyOpened_emergencyOpen (s := s.begin) hwf⟩
  · cases l <;> rfl
  · simp only [State.begin_sense] at hpending
    exact hpending

end Sys2Proof.Machine
end

section
/-! SUPPORT. The Relay Map's changes of one node after another (R37, R41 to R43, R48), each said as a change of the
entries alone. -/

namespace Sys2Proof.Machine

/-! ## One change after another -/

/-- An operation on one node: it keeps the canonical form, and rewrites that node's entry alone. -/
structure NodeTable.Edits {α : Type} (g : NodeTable → α → NodeTable) (key : α → Node)
    (f : α → NodeEntry → NodeEntry) : Prop where
  wf : ∀ {t : NodeTable} (x : α), t.wf = true → (g t x).wf = true
  get : ∀ {t : NodeTable} (x : α) (k : Node), t.wf = true →
    (g t x).get k = if k = key x then f x (t.get k) else t.get k

theorem NodeTable.Edits.wf_foldl {α : Type} {g : NodeTable → α → NodeTable} {key : α → Node}
    {f : α → NodeEntry → NodeEntry} (h : NodeTable.Edits g key f) (l : List α) {t : NodeTable} (ht : t.wf = true) :
    (l.foldl g t).wf = true :=
  NodeTable.wf_foldl g (fun _ x hx => h.wf x hx) l t ht

/-- The same edit made at each node of a list; an edit made twice is made once. -/
theorem NodeTable.Edits.get_foldl_same {g : NodeTable → Node → NodeTable} {f : Node → NodeEntry → NodeEntry}
    (h : NodeTable.Edits g id f) (hf : ∀ n e, f n (f n e) = f n e) (ns : List Node) {t : NodeTable}
    (ht : t.wf = true) (k : Node) : (ns.foldl g t).get k = if k ∈ ns then f k (t.get k) else t.get k := by
  induction ns generalizing t with
  | nil => simp
  | cons n ns ih =>
    rw [List.foldl_cons, ih (h.wf n ht), h.get n k ht]
    by_cases hn : k = n
    · subst hn
      by_cases hm : k ∈ ns <;> simp [hm, hf]
    · by_cases hm : k ∈ ns <;> simp [hm, hn]

theorem NodeTable.Edits.get_foldl_not_mem {α : Type} {g : NodeTable → α → NodeTable} {key : α → Node}
    {f : α → NodeEntry → NodeEntry} (h : NodeTable.Edits g key f) (l : List α) {t : NodeTable} (ht : t.wf = true)
    {k : Node} (hk : k ∉ l.map key) : (l.foldl g t).get k = t.get k := by
  induction l generalizing t with
  | nil => rfl
  | cons x l ih =>
    rw [List.map_cons, List.mem_cons, not_or] at hk
    rw [List.foldl_cons, ih (h.wf x ht) hk.2, h.get x k ht, if_neg hk.1]

/-- Edits at different nodes: each node's entry is rewritten by its own. -/
theorem NodeTable.Edits.get_foldl_mem {α : Type} {g : NodeTable → α → NodeTable} {key : α → Node}
    {f : α → NodeEntry → NodeEntry} (h : NodeTable.Edits g key f) (l : List α) {t : NodeTable} (ht : t.wf = true)
    (hl : (l.map key).Nodup) {x : α} (hx : x ∈ l) : (l.foldl g t).get (key x) = f x (t.get (key x)) := by
  induction l generalizing t with
  | nil => cases hx
  | cons y l ih =>
    rw [List.map_cons, List.nodup_cons] at hl
    rw [List.foldl_cons]
    rcases List.mem_cons.1 hx with rfl | hx
    · rw [h.get_foldl_not_mem l (h.wf x ht) hl.1, h.get x _ ht, if_pos rfl]
    · have hne : key x ≠ key y := fun he => hl.1 (he ▸ List.mem_map_of_mem hx)
      rw [ih (h.wf y ht) hl.2 hx, h.get y _ ht, if_neg hne]

/-! ## The edits -/

/-- An entry at the operate expiry of channel c's batch: CLOSING on c becomes HELD (R43). -/
def heldEntry (c : Chan) (e : NodeEntry) : NodeEntry :=
  match e.state with
  | .closing d l => if d = c then { e with state := .held d l } else e
  | _ => e

theorem edits_holdNode (c : Chan) : NodeTable.Edits (holdNode c) id fun _ => heldEntry c where
  wf {t} n h := by
    unfold holdNode
    split
    · split
      · exact NodeTable.wf_setState h _ _
      · exact h
    · exact h
  get {t} n k h := by
    unfold holdNode heldEntry NodeTable.state
    by_cases hk : k = n
    · subst hk
      split
      next d l hs => by_cases hd : d = c <;> simp [hs, hd, NodeTable.get_setState h]
      next => simp
    · have hset : ∀ x, (t.setState n x).get k = t.get k := fun x => by rw [NodeTable.get_setState h, if_neg hk]
      split
      · split <;> simp [hset, hk]
      · simp [hk]

/-- An entry at the expiry of a release entry that covers it: OPENING becomes FREE with a claim or none (R48). -/
def freedEntry (claim : Option Chan) (e : NodeEntry) : NodeEntry :=
  if e.state.isOpening = true then { e with state := .free claim } else e

theorem edits_freeing (claim : Node → Option Chan) :
    NodeTable.Edits (fun t n => if (t.state n).isOpening then t.setState n (.free (claim n)) else t) id
      fun n => freedEntry (claim n) where
  wf {t} n h := by
    split
    · exact NodeTable.wf_setState h _ _
    · exact h
  get {t} n k h := by
    unfold freedEntry NodeTable.state
    by_cases hk : k = n
    · subst hk
      split <;> simp [NodeTable.get_setState h]
    · split <;> simp [NodeTable.get_setState h, hk]

/-- An entry claimed by channel c, where it is FREE with no claim (R37, R41). -/
def claimedEntry (c : Chan) (e : NodeEntry) : NodeEntry :=
  if e.state = .free none then { e with state := .free (some c) } else e

theorem edits_claimNode (c : Chan) : NodeTable.Edits (claimNode c) id fun _ => claimedEntry c where
  wf {t} n h := by
    unfold claimNode
    split
    · exact NodeTable.wf_setState h _ _
    · exact h
  get {t} n k h := by
    unfold claimNode claimedEntry NodeTable.state
    by_cases hk : k = n
    · subst hk
      split <;> simp [NodeTable.get_setState h]
    · split <;> simp [NodeTable.get_setState h, hk]

/-- An entry commanded closed on channel c and a line, its close count one higher up to its cap (R38, R42). -/
def closedEntry (c : Chan) (l : Line) (e : NodeEntry) : NodeEntry :=
  { state := .closing c l, closeCount := min 16777215 (e.closeCount + 1) }

theorem edits_closeNode (c : Chan) : NodeTable.Edits (closeNode c) Prod.fst fun p => closedEntry c p.2 where
  wf p h := NodeTable.wf_set h _ _
  get {t} p k h := by
    unfold closeNode
    rw [NodeTable.get_set h]
    split
    next hk => rw [hk]; rfl
    next => rfl

theorem heldEntry_closeCount (c : Chan) (e : NodeEntry) : (heldEntry c e).closeCount = e.closeCount := by
  obtain ⟨x, n⟩ := e
  cases x with
  | closing d l => by_cases hd : d = c <;> simp [heldEntry, hd]
  | _ => rfl

theorem heldEntry_state (c : Chan) (e : NodeEntry) :
    (heldEntry c e).state =
      match e.state with
      | .closing d l => if d = c then .held d l else .closing d l
      | y => y := by
  obtain ⟨x, n⟩ := e
  cases x with
  | closing d l => by_cases hd : d = c <;> simp [heldEntry, hd]
  | _ => rfl

theorem heldEntry_heldEntry (c : Chan) (e : NodeEntry) : heldEntry c (heldEntry c e) = heldEntry c e := by
  obtain ⟨x, n⟩ := e
  cases x with
  | closing d l => by_cases hd : d = c <;> simp [heldEntry, hd]
  | _ => rfl

theorem freedEntry_freedEntry (claim : Option Chan) (e : NodeEntry) :
    freedEntry claim (freedEntry claim e) = freedEntry claim e := by
  obtain ⟨x, n⟩ := e
  cases x <;> rfl

theorem claimedEntry_claimedEntry (c : Chan) (e : NodeEntry) :
    claimedEntry c (claimedEntry c e) = claimedEntry c e := by
  unfold claimedEntry
  split <;> simp_all

/-! ## The connection (R84, R86, R89) -/

/-- A channel whose connection is made. -/
def Channel.connected (x : Channel) (k : Running) : Channel :=
  match k.inst.step.kind with
  | .measure | .contact =>
    { running := some { k with phase := .settling }
      stim := { on := true, range := k.inst.step.range, level := k.inst.step.level }
      monitor := .load k.inst.step
      reading := .empty }
  | .discharge => { x with running := some { k with phase := .dwelling 0 } }

theorem State.connectionMade_eq (s : State) (c : Chan) (k : Running) :
    s.connectionMade c k = s.withChan c ((s.chan c).connected k) := by
  unfold State.connectionMade Channel.connected
  cases k.inst.step.kind <;> rfl

theorem Channel.connected_discharge (x : Channel) {k : Running} (h : k.inst.step.kind = .discharge) :
    x.connected k = { x with running := some { k with phase := .dwelling 0 } } := by
  unfold Channel.connected; rw [h]

theorem Channel.connected_stimulus (x : Channel) {k : Running} (h : k.inst.step.kind ≠ .discharge) :
    x.connected k =
      { running := some { k with phase := .settling }
        stim := { on := true, range := k.inst.step.range, level := k.inst.step.level }
        monitor :=
          { reference := none, dwellRemaining := k.inst.step.dwell, prescale := k.inst.step.prescale,
            unit := k.inst.step.units, resettles := 0, settleSamples := 0 }
        reading := { sum := 0, count := 0, overrange := false } } := by
  unfold Channel.connected
  cases hk : k.inst.step.kind
  · rfl
  · rfl
  · exact absurd hk h

end Sys2Proof.Machine
end

section
/-! OPERATE_EXPIRY (R43): O37. -/

namespace Sys2Proof.Machine

theorem reached_iff (t now : Time) : reached t now = true ↔ (now - t).toNat < 2147483648 := by simp [reached]

theorem State.batchDue_iff (s : State) (c : Chan) :
    s.batchDue c = true ↔ ∃ b, s.relays.batches.get c = some b ∧ (s.time - b.expiry).toNat < 2147483648 := by
  unfold State.batchDue
  cases s.relays.batches.get c <;> simp [reached_iff]

theorem exec_operateExpiry (c : Chan) (s : State) :
    exec (.operateExpiry c) s = .next (if s.begin.batchDue c then s.begin.operateExpiry c else s.begin).transmit := by
  rfl

/-- The expiry of a channel's batch: its nodes HELD, the batch gone, the connection made. -/
theorem State.operateExpiry_eq {s : State} {c : Chan} {b : CloseBatch} {k : Running}
    (hb : s.relays.batches.get c = some b) (hk : (s.chan c).running = some k) :
    s.operateExpiry c = (s.withRelays { s.relays with
      nodes := b.nodes.foldl (holdNode c) s.relays.nodes, batches := s.relays.batches.set c none }).withChan c
        ((s.chan c).connected k) := by
  unfold State.operateExpiry
  simp only [hb, hk, State.connectionMade_eq]
  rfl

/-- Settles O37: the batch's nodes are edited one after another, and the connection replaces one channel. -/
theorem operateExpiryConnects : Obligations.OperateExpiryConnects := by
  unfold Obligations.OperateExpiryConnects
  intro c s hs
  refine ⟨fun hno => ?_, fun b k hwf hb hdue hk => ?_⟩
  · rw [exec_operateExpiry, if_neg, State.transmit_settled (s := s.begin) hs]
    rw [State.batchDue_iff]
    rintro ⟨b, hb, hdue⟩
    exact absurd (hno b hb) (Nat.not_le.2 hdue)
  · have hexec : exec (.operateExpiry c) s = .next (s.begin.operateExpiry c) := by
      rw [exec_operateExpiry, if_pos ((State.batchDue_iff s.begin c).2 ⟨b, hb, hdue⟩),
        State.operateExpiry_eq (s := s.begin) hb hk]
      exact congrArg _ (State.transmit_settled hs)
    rw [State.operateExpiry_eq (s := s.begin) hb hk] at hexec
    refine ⟨_, _, hexec, fun n => ?_, Channel.connected_stimulus _, Channel.connected_discharge _⟩
    have hget := (edits_holdNode c).get_foldl_same (fun _ => heldEntry_heldEntry c) b.nodes hwf n
    unfold NodeTable.state
    simp only [State.begin_relays, hget]
    by_cases hn : n ∈ b.nodes
    · simp only [hn, if_true, and_true]
      exact ⟨heldEntry_closeCount c _, heldEntry_state c _⟩
    · simp only [hn, if_false, and_false, true_and]
      cases (s.relays.nodes.get n).state <;> rfl

end Sys2Proof.Machine
end

section
/-! SUPPORT. The release queue (R47, R48, R49): an entry appended, a slot handed on, and the close that follows, in the
terms of the statements. -/

namespace Sys2Proof.Machine

/-! ## Entries appended -/

/-- What `appended` says of the map before depends on its queue, its release time, its drive output and the states of
the nodes covered. -/
theorem appended_congr {now : Time} {r r' t : RelayMap} {cause : ReleaseCause} {owners : List Chan}
    {covered : Chan → Node → Prop} {xs : List ReleaseEntry} (h : appended now r t cause owners covered xs)
    (hq : r'.queue = r.queue) (hrel : r'.tRel = r.tRel) (hd : r'.drive = r.drive)
    (hn : ∀ x ∈ xs, ∀ n ∈ x.nodes, r'.nodes.state n = r.nodes.state n) :
    appended now r' t cause owners covered xs := by
  obtain ⟨hqueue, howners, hxs, hdrive⟩ := h
  have hexp : expiryAfter now r' = expiryAfter now r := by unfold expiryAfter; rw [hq, hrel]
  refine ⟨by rw [hq]; exact hqueue, howners, fun x hx => by rw [hexp]; exact hxs x hx, ?_⟩
  rw [hdrive, hd]
  exact congrArg (r.drive ++ ·) (List.flatMap_congr fun x hx => (opensOf_congr (hn x hx)).symm)

/-- For one owner those are the nodes its entry is to cover. -/
theorem appended_owner_congr {now : Time} {r r' t : RelayMap} {cause : ReleaseCause} {c : Chan}
    {covered : Node → Prop} {xs : List ReleaseEntry} (h : appended now r t cause [c] (fun _ => covered) xs)
    (hq : r'.queue = r.queue) (hrel : r'.tRel = r.tRel) (hd : r'.drive = r.drive)
    (hn : ∀ n, covered n → r'.nodes.state n = r.nodes.state n) :
    appended now r' t cause [c] (fun _ => covered) xs := by
  refine appended_congr h hq hrel hd fun x hx n hxn => hn n ?_
  obtain ⟨-, howners, hxs, -⟩ := h
  have hown : x.owner ∈ [c].map some := by rw [← howners]; exact List.mem_map_of_mem hx
  obtain ⟨-, -, -, hcov⟩ := hxs x hx
  exact (hcov c (List.mem_singleton.1 hown) n).1 hxn

/-- The entry appended for some nodes in ascending number. -/
def State.entryFor (s : State) (c : Chan) (cause : ReleaseCause) (ns : List Node) : ReleaseEntry :=
  { owner := some c, cause := cause, nodes := ns, expiry := expiryAfter s.time s.relays }

theorem State.appended_appendEntry (s : State) (c : Chan) (cause : ReleaseCause) {ns : List Node}
    (hns : ns.Pairwise (· < ·)) {covered : Chan → Node → Prop} (hc : ∀ n, n ∈ ns ↔ covered c n) :
    appended s.time s.relays (s.appendEntry c cause ns).relays cause [c] covered [s.entryFor c cause ns] := by
  refine ⟨?_, rfl, fun x hx => ?_, ?_⟩
  · unfold State.entryFor
    rw [← State.appendExpiry_eq]
    rfl
  · rw [List.mem_singleton] at hx
    subst hx
    refine ⟨rfl, rfl, hns, fun d hd n => ?_⟩
    cases hd
    exact hc n
  · unfold State.appendEntry
    simp [State.entryFor, openCommands_eq_opensOf]

theorem openedEntry_closeCount (e : NodeEntry) : (openedEntry e).closeCount = e.closeCount := by
  obtain ⟨x, n⟩ := e
  cases x <;> rfl

theorem openedEntry_state {e : NodeEntry} {c : Chan} (h : e.state.relay?.map Prod.fst = some c) :
    (openedEntry e).state = .opening c := by
  obtain ⟨x, n⟩ := e
  cases x <;> simp_all [openedEntry, NodeState.relay?]

/-- The nodes after an append over closed nodes of one channel: those OPENING, every other as it was. -/
theorem State.appendEntry_nodes {s : State} (h : s.relays.nodes.wf = true) (c : Chan) (cause : ReleaseCause)
    (ns : List Node) (hns : ∀ n ∈ ns, (s.relays.nodes.state n).relay?.map Prod.fst = some c) (n : Node) :
    let t := s.appendEntry c cause ns
    (t.relays.nodes.get n).closeCount = (s.relays.nodes.get n).closeCount ∧
      (n ∈ ns → t.relays.nodes.state n = .opening c) ∧
      (n ∉ ns → t.relays.nodes.state n = s.relays.nodes.state n) := by
  intro t
  have hget : t.relays.nodes.get n = if n ∈ ns then openedEntry (s.relays.nodes.get n) else s.relays.nodes.get n :=
    get_foldl_openNode ns h n
  unfold NodeTable.state at hns ⊢
  rw [hget]
  by_cases hn : n ∈ ns
  · rw [if_pos hn]
    exact ⟨openedEntry_closeCount _, fun _ => openedEntry_state (hns n hn), fun hc => absurd hn hc⟩
  · rw [if_neg hn]
    exact ⟨rfl, fun hc => absurd hc hn, fun _ => rfl⟩

/-! ## A freed slot -/

theorem NodeTable.mem_map_heldOn {t : NodeTable} (h : t.wf = true) (c : Chan) (n : Node) :
    n ∈ (t.heldOn c).map Prod.fst ↔ ∃ l, t.state n = .held c l := by
  simp [NodeTable.mem_heldOn h]

theorem NodeTable.pairwise_heldOn {t : NodeTable} (h : t.wf = true) (c : Chan) :
    ((t.heldOn c).map Prod.fst).Pairwise (· < ·) := by
  refine (NodeTable.pairwise_of_wf h).sublist (map_fst_filterMap_sublist _ (fun p q hpq => ?_) t)
  revert hpq
  cases p.2.state <;> simp
  intro _ hq
  rw [← hq]

/-- An END item that covers no node when its turn comes (log entry 32). -/
def State.passes (s : State) (w : WaitItem) : Prop :=
  w.cause = .endRun ∧ ∀ n l, s.relays.nodes.state n ≠ .parked w.ch l

/-- The state with another wait list. -/
def State.withWaitList (s : State) (ws : List WaitItem) : State := s.withRelays { s.relays with waitList := ws }

theorem State.parkedOn_of_passes {s : State} (h : s.relays.nodes.wf = true) {w : WaitItem} (hw : s.passes w) :
    s.relays.nodes.parkedOn w.ch = [] :=
  (NodeTable.parkedOn_eq_nil h w.ch).2 fun ⟨n, l, hn⟩ => hw.2 n l hn

/-- Items that cover no node leave without an entry, for the next item. -/
theorem grantSlot_passed {s : State} (h : s.relays.nodes.wf = true) (front rest : List WaitItem)
    (hl : s.relays.waitList = front ++ rest) (hf : ∀ v ∈ front, s.passes v) :
    grantSlot (front ++ rest) s = grantSlot rest (s.withWaitList rest) := by
  induction front generalizing s with
  | nil =>
    rw [List.nil_append] at hl ⊢
    rw [← hl]
    rfl
  | cons v front ih =>
    have hv : s.passes v := hf v (List.mem_cons_self ..)
    have hdrop : s.dropWaiting = s.withWaitList (front ++ rest) := by
      unfold State.dropWaiting
      rw [hl]
      rfl
    rw [List.cons_append, grantSlot]
    simp only [hv.1, if_pos (State.parkedOn_of_passes h hv)]
    rw [hdrop]
    exact ih (s := s.withWaitList (front ++ rest)) h rfl fun v hv => hf v (List.mem_cons_of_mem _ hv)

/-- A COMPLETE item's turn: its entry, and its channel IDLE. -/
theorem grantSlot_complete {w : WaitItem} (hw : w.cause = .complete) (ws : List WaitItem) (s : State) :
    grantSlot (w :: ws) (s.withWaitList (w :: ws)) =
      (((s.withWaitList ws).appendEntry w.ch .complete ((s.relays.nodes.heldOn w.ch).map Prod.fst)).withChan w.ch
        { s.chan w.ch with running := none }).withExamDue true := by
  rw [grantSlot]
  simp only [hw]
  rfl

/-- An END item's turn, where nodes are parked on its channel. -/
theorem grantSlot_endRun {w : WaitItem} (hw : w.cause = .endRun) (ws : List WaitItem) {s : State}
    (hp : s.relays.nodes.parkedOn w.ch ≠ []) :
    grantSlot (w :: ws) (s.withWaitList (w :: ws)) =
      (s.withWaitList ws).appendEntry w.ch .endRun ((s.relays.nodes.parkedOn w.ch).map Prod.fst) := by
  rw [grantSlot]
  simp only [hw]
  exact if_neg hp

theorem grantSlot_wf (l : List WaitItem) {s : State} (h : s.relays.nodes.wf = true) :
    (grantSlot l s).relays.nodes.wf = true := by
  induction l generalizing s with
  | nil => exact h
  | cons w ws ih =>
    unfold grantSlot
    cases w.cause
    · exact State.wf_appendEntry (s := s.dropWaiting) h _ _ _
    · simp only
      split
      · exact ih (s := s.dropWaiting) h
      · exact State.wf_appendEntry (s := s.dropWaiting) h _ _ _

@[simp] theorem grantSlot_window (l : List WaitItem) (s : State) : (grantSlot l s).disp.window = s.disp.window := by
  induction l generalizing s with
  | nil => rfl
  | cons w ws ih =>
    unfold grantSlot
    cases w.cause
    · rfl
    · simp only
      split
      · exact ih s.dropWaiting
      · rfl

/-- A granted item of channel c, as `slotGranted` says it: one entry, its nodes OPENING, and the items after it still
waiting (R49). -/
def entryGranted (now : Time) (r t : RelayMap) (c : Chan) (ws : List WaitItem) (cause : ReleaseCause)
    (covered : Node → Prop) : Prop :=
  (∃ xs, appended now r t cause [c] (fun _ => covered) xs) ∧
    t = { r with nodes := t.nodes, queue := t.queue, waitList := ws, drive := t.drive } ∧
    ∀ n, (t.nodes.get n).closeCount = (r.nodes.get n).closeCount ∧
      (covered n → t.nodes.state n = .opening c) ∧ (¬ covered n → t.nodes.state n = r.nodes.state n)

theorem State.entryGranted_appendEntry {s : State} (h : s.relays.nodes.wf = true) (c : Chan) (cause : ReleaseCause)
    (ws : List WaitItem) {ns : List Node} (hns : ns.Pairwise (· < ·)) {covered : Node → Prop}
    (hc : ∀ n, n ∈ ns ↔ covered n)
    (hrelay : ∀ n, covered n → (s.relays.nodes.state n).relay?.map Prod.fst = some c) :
    entryGranted s.time s.relays ((s.withWaitList ws).appendEntry c cause ns).relays c ws cause covered := by
  refine ⟨⟨_, (s.withWaitList ws).appended_appendEntry c cause hns hc⟩, rfl, fun n => ?_⟩
  rw [← hc n]
  exact State.appendEntry_nodes (s := s.withWaitList ws) h c cause ns (fun m hm => hrelay m ((hc m).1 hm)) n

/-- A freed slot handed on is what `slotGranted` says, but for the examination it may start (R49). -/
theorem slotGranted_grantSlot {s : State} (h : s.relays.nodes.wf = true) :
    slotGranted s ((grantSlot s.relays.waitList s).withExamDue s.disp.examDue) := by
  refine ⟨fun hall => ?_, fun front w ws hl hf => ⟨fun hw => ?_, fun hw hp => ?_⟩⟩
  · have hgrant := grantSlot_passed h s.relays.waitList [] (List.append_nil _).symm hall
    rw [List.append_nil] at hgrant
    rw [hgrant]
    rfl
  · rw [hl, grantSlot_passed h front (w :: ws) hl hf, grantSlot_complete hw]
    exact ⟨State.entryGranted_appendEntry h w.ch .complete ws (NodeTable.pairwise_heldOn h _)
      (NodeTable.mem_map_heldOn h _) (fun n ⟨l, hn⟩ => by rw [hn]; rfl), rfl⟩
  · have hne : s.relays.nodes.parkedOn w.ch ≠ [] := fun he => (NodeTable.parkedOn_eq_nil h w.ch).1 he hp
    rw [hl, grantSlot_passed h front (w :: ws) hl hf, grantSlot_endRun hw ws hne]
    exact ⟨State.entryGranted_appendEntry h w.ch .endRun ws (NodeTable.pairwise_parkedOn h _)
      (NodeTable.mem_map_parkedOn h _) (fun n ⟨l, hn⟩ => by rw [hn]; rfl), rfl⟩

/-- The slot handed on and the close of the event, from the state in which a slot has become free (R49, R60, R151). -/
theorem State.exists_granted_closed {u : State} (hwf : u.relays.nodes.wf = true) (hclear : u.transientsClear)
    (hcalm : u.countersPassive ∨ u.dispatchQuiet) :
    ∃ v, slotGranted u v ∧ closedFrom v (grantSlot u.relays.waitList u).noteExam.closeEvent := by
  obtain ⟨hexam, hask⟩ := hclear
  set v := (grantSlot u.relays.waitList u).withExamDue false with hv
  refine ⟨v, ?_, closedFrom_closeEvent (s := v) (fun hact => ?_) ?_ rfl (Or.inl (grantSlot_wf _ hwf))⟩
  · rw [hv, ← hexam]
    exact slotGranted_grantSlot hwf
  · have hrun : v.run = u.run := grantSlot_run _ u
    rcases hcalm with hp | hq
    · refine State.walksCalm_of_passive ?_
      have hcnt : v.counters = u.counters := grantSlot_counters _ u
      unfold State.countersPassive
      rw [hcnt]
      exact hp
    · refine State.walksCalm_of_dispatchQuiet (hq.imp ?_ (Or.imp ?_ ?_)) hact
      · rw [hrun]; exact id
      · exact (grantSlot_disp_paused _ u).trans
      · exact (grantSlot_window _ u).trans
  · exact (congrArg RunControl.haltAsked (grantSlot_run _ u)).trans hask

end Sys2Proof.Machine
end

section
/-! RELEASE_ENTRY_EXPIRY (R48, R49): O38, O40. -/

namespace Sys2Proof.Machine

theorem exec_releaseEntryExpiry (s : State) :
    exec .releaseEntryExpiry s = .next (if s.begin.entryDue then s.begin.releaseExpiry else s.begin).transmit := by
  rfl

theorem State.entryDue_iff (s : State) :
    s.entryDue = true ↔ ∃ e rest, s.relays.queue = e :: rest ∧ (s.time - e.expiry).toNat < 2147483648 := by
  unfold State.entryDue
  cases s.relays.queue <;> simp [reached_iff]

/-- The expiry of a due entry: its nodes freed, its channel's close phase, the slot handed on, the close. -/
theorem exec_releaseEntryExpiry_due {s : State} {e : ReleaseEntry} {rest : List ReleaseEntry}
    (hq : s.relays.queue = e :: rest) (hdue : (s.time - e.expiry).toNat < 2147483648) :
    exec .releaseEntryExpiry s = .next
      (grantSlot ((s.begin.freeEntry e).closeAfter e).relays.waitList
        ((s.begin.freeEntry e).closeAfter e)).noteExam.closeEvent.transmit := by
  rw [exec_releaseEntryExpiry, if_pos ((State.entryDue_iff s.begin).2 ⟨e, rest, hq, hdue⟩)]
  unfold State.releaseExpiry
  simp only [State.begin_relays, hq]

/-- The expiry of the oldest entry changes the node table and takes the entry off the queue. -/
theorem State.freeEntry_eq {s : State} {e : ReleaseEntry} {rest : List ReleaseEntry} (hq : s.relays.queue = e :: rest) :
    s.freeEntry e = s.withRelays { s.relays with nodes := (s.freeEntry e).relays.nodes, queue := rest } := by
  unfold State.freeEntry
  simp only [hq]
  rfl

/-- The nodes after the expiry of an entry. -/
theorem State.freeEntry_get {s : State} (h : s.relays.nodes.wf = true) (e : ReleaseEntry) (n : Node) :
    (s.freeEntry e).relays.nodes.get n =
      if n ∈ e.nodes then freedEntry (s.claimAtExpiry e n) (s.relays.nodes.get n) else s.relays.nodes.get n :=
  (edits_freeing (s.claimAtExpiry e)).get_foldl_same (fun _ => freedEntry_freedEntry _) e.nodes h n

theorem State.freeEntry_wf {s : State} (h : s.relays.nodes.wf = true) (e : ReleaseEntry) :
    (s.freeEntry e).relays.nodes.wf = true :=
  (edits_freeing (s.claimAtExpiry e)).wf_foldl e.nodes h

theorem freedEntry_closeCount (claim : Option Chan) (e : NodeEntry) :
    (freedEntry claim e).closeCount = e.closeCount := by
  unfold freedEntry
  split <;> rfl

theorem freedEntry_state (claim : Option Chan) (e : NodeEntry) :
    (freedEntry claim e).state =
      match e.state with
      | .opening _ => .free claim
      | y => y := by
  obtain ⟨x, n⟩ := e
  cases x <;> rfl

/-- An entry's nodes freed with no claim: those OPENING are FREE, and every other node is as it was (R48). -/
def nodeFreed (e : ReleaseEntry) (t u : NodeTable) (n : Node) : Prop :=
  (u.get n).closeCount = (t.get n).closeCount ∧
    u.state n =
      match t.state n with
      | .opening d => if n ∈ e.nodes then .free none else .opening d
      | y => y

theorem State.nodeFreed_freeEntry {s : State} (h : s.relays.nodes.wf = true) (e : ReleaseEntry) {n : Node}
    (hc : s.claimAtExpiry e n = none) : nodeFreed e s.relays.nodes (s.freeEntry e).relays.nodes n := by
  unfold nodeFreed NodeTable.state
  rw [State.freeEntry_get h, hc]
  by_cases hn : n ∈ e.nodes
  · simp only [hn, if_true]
    exact ⟨freedEntry_closeCount _ _, freedEntry_state _ _⟩
  · simp only [hn, if_false, true_and]
    cases (s.relays.nodes.get n).state <;> rfl

/-- The expiry of an entry changes no node that is closed or closing. -/
theorem nodeFreed.state_iff {e : ReleaseEntry} {t u : NodeTable} {n : Node} (h : nodeFreed e t u n) {x : NodeState}
    (hx : x.relay? ≠ none) : u.state n = x ↔ t.state n = x := by
  rw [h.2]
  split
  next d hd =>
    rw [hd]
    refine iff_of_false ?_ ?_
    · split <;> (rintro rfl; exact hx rfl)
    · rintro rfl; exact hx rfl
  next => rfl

theorem State.claimAtExpiry_of_not_dispatch (s : State) {e : ReleaseEntry} (h : e.cause ≠ .dispatch) (n : Node) :
    s.claimAtExpiry e n = none := by
  unfold State.claimAtExpiry
  split
  next hc _ => exact absurd hc h
  next => rfl

theorem State.closeAfter_of_not_dispatch (s : State) {e : ReleaseEntry} (h : e.cause ≠ .dispatch) :
    s.closeAfter e = s := by
  unfold State.closeAfter
  split
  next hc _ => exact absurd hc h
  next => rfl

/-- Settles O38: the entry's nodes are freed, and the slot and the close follow as `exists_granted_closed` says. -/
theorem releaseExpiryFrees : Obligations.ReleaseExpiryFrees := by
  unfold Obligations.ReleaseExpiryFrees
  intro s hs
  refine ⟨fun hno => ?_, fun e rest hwf hclear hq hdue hcause hcalm => ?_⟩
  · rw [exec_releaseEntryExpiry, if_neg, State.transmit_settled (s := s.begin) hs]
    rw [State.entryDue_iff]
    rintro ⟨e, rest, hq, hdue⟩
    exact absurd (hno e rest hq) (Nat.not_le.2 hdue)
  · obtain ⟨v, hgrant, hclose⟩ := State.exists_granted_closed (u := s.begin.freeEntry e)
      (State.freeEntry_wf (s := s.begin) hwf e) hclear hcalm
    have hexec := exec_releaseEntryExpiry_due hq hdue
    rw [State.closeAfter_of_not_dispatch _ hcause] at hexec
    refine ⟨s.begin.freeEntry e, v, _, hexec, State.freeEntry_eq (s := s.begin) hq,
      fun n => State.nodeFreed_freeEntry (s := s.begin) hwf e (s.begin.claimAtExpiry_of_not_dispatch hcause n),
      hgrant, hclose⟩

/-- A grant in the slot of an expired entry, in terms of the map before the expiry. -/
theorem entryGranted.of_freed {now : Time} {r r' t : RelayMap} {c : Chan} {ws : List WaitItem} {cause : ReleaseCause}
    {covered : Node → Prop} {e : ReleaseEntry} (h : entryGranted now r t c ws cause covered)
    (hr : r = { r' with nodes := r.nodes }) (hf : ∀ n, nodeFreed e r'.nodes r.nodes n)
    (hcov : ∀ n, covered n → (r'.nodes.state n).relay? ≠ none) :
    (∃ xs, appended now r' t cause [c] (fun _ => covered) xs) ∧
      t = { r' with nodes := t.nodes, queue := t.queue, waitList := ws, drive := t.drive } ∧
      ∀ n, (t.nodes.get n).closeCount = (r'.nodes.get n).closeCount ∧ (covered n → t.nodes.state n = .opening c) ∧
        (¬ covered n → t.nodes.state n =
          match r'.nodes.state n with
          | .opening d => if n ∈ e.nodes then .free none else .opening d
          | y => y) := by
  obtain ⟨⟨xs, hx⟩, ht, hn⟩ := h
  refine ⟨⟨xs, appended_owner_congr hx (by rw [hr]) (by rw [hr]) (by rw [hr]) fun n hc => ?_⟩, ?_, fun n => ?_⟩
  · exact (((hf n).state_iff (hcov n hc)).2 rfl).symm
  · rw [ht, hr]
  · obtain ⟨hcount, hopen, hstay⟩ := hn n
    exact ⟨hcount.trans (hf n).1, hopen, fun hc => (hstay hc).trans (hf n).2⟩

/-- Settles O40: the slot that O38 frees is handed to the item, whose nodes the expiry has left as they were. -/
theorem freedSlotGranted : Obligations.FreedSlotGranted := by
  unfold Obligations.FreedSlotGranted
  intro s e rest passed w ws hwf hs hclear hq hdue hcause hwait hpassed hcalm granted
  obtain ⟨u, v, t, hexec, hu, hnodes, ⟨hall, hfirst⟩, hclose⟩ :=
    (releaseExpiryFrees s hs).2 e rest hwf hclear hq hdue hcause hcalm
  have hfreed : ∀ n, nodeFreed e s.relays.nodes u.relays.nodes n := hnodes
  have hheld : ∀ n c l, u.relays.nodes.state n = .held c l ↔ s.relays.nodes.state n = .held c l := fun n c l =>
    (hfreed n).state_iff (Option.some_ne_none (c, l))
  have hparked : ∀ n c l, u.relays.nodes.state n = .parked c l ↔ s.relays.nodes.state n = .parked c l := fun n c l =>
    (hfreed n).state_iff (Option.some_ne_none (c, l))
  have hrelays : ∀ r, u.withRelays r = s.withRelays r := fun r => by rw [hu]; rfl
  have hmap : u.relays = { s.relays with nodes := u.relays.nodes, queue := rest, drive := [] } := by rw [hu]; rfl
  have hwl : u.relays.waitList = passed ++ w :: ws := by rw [hmap]; exact hwait
  have htime : u.time = s.time := by rw [hu]; rfl
  have hchan : u.chan w.ch = s.chan w.ch := by rw [hu]; rfl
  rw [hwl] at hall hfirst
  simp only [hparked, hheld, htime, ne_eq, hrelays] at hall hfirst
  obtain ⟨hcomplete, hend⟩ := hfirst passed w ws rfl hpassed
  refine ⟨fun hw => ?_, fun hw hp => ?_, fun hw hnone hnil => ?_⟩
  · obtain ⟨hentry, hv⟩ := hcomplete hw
    rw [hchan] at hv
    exact ⟨v, t, hexec, hclose, entryGranted.of_freed hentry hmap hfreed
      (fun n ⟨l, hn⟩ => by rw [hn]; exact Option.some_ne_none (w.ch, l)), hv⟩
  · obtain ⟨hentry, hv⟩ := hend hw hp
    exact ⟨v, t, hexec, hclose, entryGranted.of_freed hentry hmap hfreed
      (fun n ⟨l, hn⟩ => by rw [hn]; exact Option.some_ne_none (w.ch, l)), hv⟩
  · subst hnil
    have hv := hall fun x hx => by
      rcases List.mem_append.1 hx with hx | hx
      · exact hpassed x hx
      · rw [List.mem_singleton.1 hx]; exact ⟨hw, hnone⟩
    have hvn : v.relays.nodes = u.relays.nodes := by rw [hv]; rfl
    refine ⟨v, t, hexec, hclose, ?_, fun n => by rw [hvn]; exact hnodes n⟩
    rw [hvn, hv, hmap]

end Sys2Proof.Machine
end

section
/-! SUPPORT. The close phase (R42, R84) where no counter acts on a wrap. -/

namespace Sys2Proof.Machine

/-! ## Node sets -/

/-- Where the nodes of a node set differ, a node's line is the one it is listed with. -/
theorem Instance.lineOf_eq_some {i : Instance} (h : (i.nodes.map Prod.fst).Nodup) (n : Node) (l : Line) :
    i.lineOf n = some l ↔ (n, l) ∈ i.nodes := by
  unfold Instance.lineOf
  generalize i.nodes = ps at h
  induction ps with
  | nil => simp
  | cons p ps ih =>
    obtain ⟨m, k⟩ := p
    rw [List.map_cons, List.nodup_cons] at h
    by_cases hm : m = n
    · subst hm
      have hno : (m, l) ∉ ps := fun hc => h.1 (List.mem_map.2 ⟨_, hc, rfl⟩)
      simp [hno, eq_comm]
    · simp [hm, Ne.symm hm, ih h.2]

theorem Instance.lineOf_eq_none (i : Instance) (n : Node) : i.lineOf n = none ↔ n ∉ i.nodes.map Prod.fst := by
  unfold Instance.lineOf
  rw [Option.map_eq_none_iff, List.find?_eq_none, List.mem_map]
  simp only [decide_eq_true_eq, not_exists, not_and]

/-! ## An occurrence that no counter acts on -/

theorem State.offer_passive_eq {s : State} (h : s.countersPassive) (o : Occurrence) :
    s.offer o = (s.withCounters (s.offer o).counters).withLink (s.offer o).link := by
  obtain ⟨⟨hrun, hsites, hplan, hres, htime, -, -, -, -, -⟩, hdisp⟩ := State.offer_passive h o
  have htick := s.offer_tickTaken o
  have hrelays := s.offer_relays o
  have hchans := s.offer_chans o
  have hpending := s.offer_pending o
  generalize s.offer o = t at *
  obtain ⟨⟩ := t
  simp only at *
  subst_vars
  rfl

/-! ## The close phase -/

/-- With no node to close the connection is made in the same event (R84). -/
theorem State.closePhase_of_none {s : State} {c : Chan} {k : Running} (hk : (s.chan c).running = some k)
    (hn : s.toClose k.inst = []) : s.closePhase c = s.withChan c ((s.chan c).connected k) := by
  unfold State.closePhase
  simp only [hk, if_pos hn, State.connectionMade_eq]
  rfl

/-- The state after the close commands of channel c's close phase, before their CLOSE event. -/
def State.closing (s : State) (c : Chan) (k : Running) : State :=
  (s.withRunning c (some { k with phase := .connecting .close })).closeNodes c (s.toClose k.inst)

theorem State.closePhase_of_some {s : State} {c : Chan} {k : Running} (hk : (s.chan c).running = some k)
    (hn : s.toClose k.inst ≠ []) :
    s.closePhase c = (s.closing c k).offer (emitted .close (s.toClose k.inst).length c k.inst) := by
  unfold State.closePhase
  simp only [hk, if_neg hn]
  rfl

theorem State.mem_toClose (s : State) (i : Instance) (q : Node × Line) :
    q ∈ s.toClose i ↔ q ∈ i.nodes ∧ ∃ x, s.relays.nodes.state q.1 = .free x := by
  unfold State.toClose
  rw [List.mem_filter]
  refine and_congr_right fun _ => ?_
  cases s.relays.nodes.state q.1 <;> simp [NodeState.isFree]

theorem State.nodup_toClose (s : State) {i : Instance} (h : (i.nodes.map Prod.fst).Nodup) :
    ((s.toClose i).map Prod.fst).Nodup := h.sublist (List.filter_sublist.map _)

/-- A node commanded closed in the close phase. -/
theorem State.closing_get_mem {s : State} (h : s.relays.nodes.wf = true) (c : Chan) {k : Running}
    (hnd : (k.inst.nodes.map Prod.fst).Nodup) {n : Node} {l : Line} (hn : (n, l) ∈ s.toClose k.inst) :
    (s.closing c k).relays.nodes.get n = closedEntry c l (s.relays.nodes.get n) :=
  (edits_closeNode c).get_foldl_mem _ h (s.nodup_toClose hnd) hn

theorem State.closing_get_not_mem {s : State} (h : s.relays.nodes.wf = true) (c : Chan) {k : Running} {n : Node}
    (hn : n ∉ (s.toClose k.inst).map Prod.fst) : (s.closing c k).relays.nodes.get n = s.relays.nodes.get n :=
  (edits_closeNode c).get_foldl_not_mem _ h hn

/-- What a close phase leaves: every other channel and batch, every node it does not close, and every block but the
relays, the channels, the counters and the notices. -/
structure State.ClosePhaseLeaves (s : State) (c : Chan) (i : Instance) (t : State) : Prop where
  blocks : t = { s with relays := t.relays, chans := t.chans, counters := t.counters, link := t.link }
  relays : t.relays =
    { s.relays with nodes := t.relays.nodes, batches := t.relays.batches, drive := t.relays.drive }
  chan : ∀ d, d ≠ c → t.chan d = s.chan d
  batch : ∀ d, d ≠ c → t.relays.batches.get d = s.relays.batches.get d
  node : ∀ n, n ∉ (s.toClose i).map Prod.fst → t.relays.nodes.get n = s.relays.nodes.get n

theorem State.closePhase_leaves {s : State} (hp : s.countersPassive) (hwf : s.relays.nodes.wf = true) {c : Chan}
    {k : Running} (hk : (s.chan c).running = some k) : s.ClosePhaseLeaves c k.inst (s.closePhase c) := by
  by_cases hn : s.toClose k.inst = []
  · rw [State.closePhase_of_none hk hn]
    exact ⟨rfl, rfl, fun d hd => by rw [State.withChan_chan, if_neg hd], fun _ _ => rfl, fun _ _ => rfl⟩
  · rw [State.closePhase_of_some hk hn, State.offer_passive_eq (s := s.closing c k) hp]
    refine ⟨rfl, rfl, fun d hd => ?_, fun d hd => ?_, fun n hn => State.closing_get_not_mem hwf c hn⟩
    · exact ((s.withChan_chan c d _).trans (if_neg hd))
    · exact (Four.get_set _ _ _ _).trans (if_neg hd)

/-- What a close phase with a node to close does to its channel, batch and drive output, and its CLOSE event (R42). -/
theorem State.closePhase_closes {s : State} {c : Chan} {k : Running} (hk : (s.chan c).running = some k)
    (hn : s.toClose k.inst ≠ []) :
    (s.closePhase c).chan c = { s.chan c with running := some { k with phase := .connecting .close } } ∧
      (s.closePhase c).relays.batches.get c =
        some { nodes := (s.toClose k.inst).map Prod.fst, expiry := after s.time s.relays.tOp } ∧
      (s.closePhase c).relays.drive = s.relays.drive ++ (s.toClose k.inst).map (fun q => .close q.1 c q.2) ∧
      (s.closePhase c).counters = s.counted [emitted .close (s.toClose k.inst).length c k.inst] := by
  rw [State.closePhase_of_some hk hn]
  have hchan : (s.closing c k).chan c = { s.chan c with running := some { k with phase := .connecting .close } } :=
    (s.withChan_chan c c _).trans (if_pos rfl)
  refine ⟨?_, ?_, by rw [State.offer_relays]; rfl, State.offer_counters_congr (by rfl) _⟩
  · unfold State.chan at hchan ⊢
    rw [State.offer_chans]
    exact hchan
  · rw [State.offer_relays]
    exact (Four.get_set _ _ _ _).trans (if_pos rfl)

theorem State.closePhase_get_mem {s : State} (hwf : s.relays.nodes.wf = true) {c : Chan} {k : Running}
    (hk : (s.chan c).running = some k) (hnd : (k.inst.nodes.map Prod.fst).Nodup) {n : Node} {l : Line}
    (hn : (n, l) ∈ s.toClose k.inst) :
    (s.closePhase c).relays.nodes.get n = closedEntry c l (s.relays.nodes.get n) := by
  rw [State.closePhase_of_some hk (List.ne_nil_of_mem hn), State.offer_relays]
  exact State.closing_get_mem hwf c hnd hn

end Sys2Proof.Machine
end

section
/-! RELEASE_ENTRY_EXPIRY of a DISPATCH entry (R42, R48, R84): O39. -/

namespace Sys2Proof.Machine

/-- The claim at the expiry of a DISPATCH entry is the owner's, for the nodes the owner needs (R37). -/
theorem State.claimAtExpiry_of_dispatch {s : State} {e : ReleaseEntry} {c : Chan} {k : Running}
    (hcause : e.cause = .dispatch) (howner : e.owner = some c) (hk : (s.chan c).running = some k) (n : Node) :
    s.claimAtExpiry e n = if n ∈ k.inst.nodes.map Prod.fst then some c else none := by
  unfold State.claimAtExpiry State.instIn Instance.uses
  simp only [hcause, howner, hk, Option.map_some, Option.any_some, List.any_eq_true, decide_eq_true_eq, List.mem_map]

/-- A node is FREE when the entry has expired where it was before, or where the entry covers it OPENING. -/
theorem State.freeEntry_free {s : State} (h : s.relays.nodes.wf = true) (e : ReleaseEntry) (n : Node) :
    (∃ x, (s.freeEntry e).relays.nodes.state n = .free x) ↔
      (∃ x, s.relays.nodes.state n = .free x) ∨ (n ∈ e.nodes ∧ ∃ d, s.relays.nodes.state n = .opening d) := by
  unfold NodeTable.state
  rw [State.freeEntry_get h]
  by_cases hn : n ∈ e.nodes
  · simp only [hn, if_true, true_and, freedEntry_state]
    cases (s.relays.nodes.get n).state <;> simp
  · simp [hn]

theorem State.freeEntry_closeCount {s : State} (h : s.relays.nodes.wf = true) (e : ReleaseEntry) (n : Node) :
    ((s.freeEntry e).relays.nodes.get n).closeCount = (s.relays.nodes.get n).closeCount := by
  rw [State.freeEntry_get h]
  split
  · exact freedEntry_closeCount _ _
  · rfl

/-- A node that the entry does not cover OPENING is as it was. -/
theorem State.nodeFreed_of_not_opening {s : State} (h : s.relays.nodes.wf = true) (e : ReleaseEntry) {n : Node}
    (hn : ¬ (n ∈ e.nodes ∧ ∃ d, s.relays.nodes.state n = .opening d)) :
    nodeFreed e s.relays.nodes (s.freeEntry e).relays.nodes n := by
  refine ⟨State.freeEntry_closeCount h e n, ?_⟩
  unfold NodeTable.state at hn ⊢
  rw [State.freeEntry_get h]
  by_cases he : n ∈ e.nodes
  · simp only [he, true_and, not_exists] at hn
    simp only [he, if_true, freedEntry_state]
  · simp only [he, if_false]
    cases (s.relays.nodes.get n).state <;> rfl

theorem nodeFreed.of_get_eq {e : ReleaseEntry} {t u v : NodeTable} {n : Node} (h : nodeFreed e t u n)
    (hv : v.get n = u.get n) : nodeFreed e t v n := by
  unfold nodeFreed NodeTable.state at h ⊢
  rw [hv]
  exact h

/-- The close phase of a channel that waits for its DISPATCH entry; no halt is asked for. -/
theorem State.closeAfter_dispatch {s : State} {e : ReleaseEntry} {c : Chan} {k : Running} (hcause : e.cause = .dispatch)
    (howner : e.owner = some c) (hk : (s.chan c).running = some k) (hphase : k.phase = .connecting .release)
    (hp : s.countersPassive) (hask : s.run.haltAsked = false) : s.closeAfter e = s.closePhase c := by
  have hawait : s.awaitsRelease c = true := by simp [State.awaitsRelease, hk, hphase]
  unfold State.closeAfter
  simp only [hcause, howner, if_pos hawait]
  exact State.takeAskedHalt_of_not ((congrArg RunControl.haltAsked (State.closePhase_passive hp c).1.run).trans hask)

/-- Settles O39: the entry's nodes are freed, the close phase closes those needed that are FREE then, and the
slot and the close follow as `exists_granted_closed` says. -/
theorem dispatchEntryCloses : Obligations.DispatchEntryCloses := by
  unfold Obligations.DispatchEntryCloses
  intro s c k e rest hwf hs hclear hp hq hdue hcause howner hk hphase hnd freed opened
  set f := s.begin.freeEntry e
  have hfwf : f.relays.nodes.wf = true := State.freeEntry_wf (s := s.begin) hwf e
  have hfree : ∀ n, (∃ x, f.relays.nodes.state n = .free x) ↔ freed n := State.freeEntry_free (s := s.begin) hwf e
  have hclose : ∀ q, q ∈ f.toClose k.inst ↔ q ∈ k.inst.nodes ∧ freed q.1 := fun q => by
    rw [State.mem_toClose, hfree]
  have hkeys : ∀ n, n ∈ (f.toClose k.inst).map Prod.fst → freed n := by
    intro n hn
    obtain ⟨q, hq, rfl⟩ := List.mem_map.1 hn
    exact ((hclose q).1 hq).2
  obtain ⟨hcalm, hdisp⟩ := State.closePhase_passive (s := f) hp c
  obtain ⟨v, hgrant, hclosed⟩ := State.exists_granted_closed (u := f.closePhase c) (hcalm.wf hfwf)
    ⟨(congrArg Dispatcher.examDue hdisp).trans hclear.1, (congrArg RunControl.haltAsked hcalm.run).trans hclear.2⟩
    (Or.inl (hcalm.passive hp))
  have hexec := exec_releaseEntryExpiry_due hq hdue
  rw [State.closeAfter_dispatch (s := s.begin.freeEntry e) hcause howner hk hphase hp hclear.2] at hexec
  obtain ⟨hblocks, hrelays, hchan, hbatch, hnode⟩ := State.closePhase_leaves (s := f) hp hfwf hk
  have hfrelays : f.relays = { s.relays with nodes := f.relays.nodes, queue := rest, drive := [] } :=
    congrArg State.relays (State.freeEntry_eq (s := s.begin) hq)
  refine ⟨f.closePhase c, v, _, hexec, hgrant, hclosed, hchan, (f.evolves_closePhase c).pending, hblocks, ?_, ?_,
    fun n hn => ?_, fun q hq hno => ?_, fun hsome => ?_, fun hnone => ?_⟩
  · rw [hrelays, hfrelays]
  · intro d hd
    rw [hbatch d hd, hfrelays]
  · refine (State.nodeFreed_freeEntry (s := s.begin) hwf e ?_).of_get_eq (hnode n fun hc => ?_)
    · rw [State.claimAtExpiry_of_dispatch (s := s.begin) hcause howner hk, if_neg hn]
    · exact hn ((List.filter_sublist.map _).subset hc)
  · exact (State.nodeFreed_of_not_opening (s := s.begin) hwf e fun hc => hno (Or.inr hc)).of_get_eq
      (hnode q.1 fun hc => hno (hkeys q.1 hc))
  · obtain ⟨q, hq, hqf⟩ := hsome
    have hne : f.toClose k.inst ≠ [] := List.ne_nil_of_mem ((hclose q).2 ⟨hq, hqf⟩)
    obtain ⟨hc, hb, hd, hcount⟩ := State.closePhase_closes (s := f) hk hne
    refine ⟨hc, ⟨f.toClose k.inst, _, List.filter_sublist, fun q hq => ?_, hb, rfl, rfl, hd,
      hcount.trans (State.counted_congr (s := f) (t := s) rfl _)⟩,
      fun n l hn hfreed => ?_⟩
    · exact (hclose q).trans (and_iff_right hq)
    · rw [State.closePhase_get_mem (s := f) hfwf hk hnd ((hclose (n, l)).2 ⟨hn, hfreed⟩)]
      unfold closedEntry
      rw [State.freeEntry_closeCount (s := s.begin) hwf]
      rfl
  · have hnil : f.toClose k.inst = [] := List.eq_nil_iff_forall_not_mem.2 fun q hq =>
      hnone q ((hclose q).1 hq).1 ((hclose q).1 hq).2
    have hmade := State.closePhase_of_none (s := f) hk hnil
    have hchan' : (f.closePhase c).chan c = (s.chan c).connected k := by
      rw [hmade, State.withChan_chan, if_pos rfl]
      rfl
    rw [hchan', hmade]
    exact ⟨rfl, rfl, rfl, Channel.connected_discharge _, Channel.connected_stimulus _⟩

end Sys2Proof.Machine
end

section
/-! A dispatch (R41, R71, R83, R84): O28. -/

namespace Sys2Proof.Machine

/-! ## The sorting of parked nodes and the claims (R37, R41) -/

/-- An entry after a dispatch to channel c has sorted the parked nodes and claimed the FREE ones. -/
def sortedEntry (c : Chan) (i : Instance) (n : Node) (e : NodeEntry) : NodeEntry :=
  match e.state with
  | .parked d l => if d = c ∧ i.lineOf n = some l then { e with state := .held d l } else e
  | .free none => if n ∈ i.nodes.map Prod.fst then { e with state := .free (some c) } else e
  | _ => e

theorem get_sortParked {t : NodeTable} (h : t.wf = true) (c : Chan) (i : Instance) (n : Node) :
    (sortParked t c i).get n = sortedEntry c i n (t.get n) := by
  have hreuse : (t.rewrite (reuseEntry c i)).get n = reuseEntry c i n (t.get n) :=
    NodeTable.get_rewrite h _ (fun _ => rfl) n
  unfold sortParked
  rw [(edits_claimNode c).get_foldl_same (fun _ => claimedEntry_claimedEntry c) _ (NodeTable.wf_rewrite h _) n, hreuse]
  obtain ⟨x, k⟩ := t.get n
  cases x with
  | parked d l => by_cases hd : d = c ∧ i.lineOf n = some l <;> simp [reuseEntry, sortedEntry, claimedEntry, hd]
  | free x => cases x <;> simp [reuseEntry, sortedEntry, claimedEntry]
  | closing _ _ | held _ _ | opening _ => simp [reuseEntry, sortedEntry, claimedEntry]

theorem sortedEntry_closeCount (c : Chan) (i : Instance) (n : Node) (e : NodeEntry) :
    (sortedEntry c i n e).closeCount = e.closeCount := by
  unfold sortedEntry
  (repeat' split) <;> rfl

theorem State.mem_toRelease {s : State} (h : s.relays.nodes.wf = true) (c : Chan) (i : Instance) (n : Node) :
    n ∈ s.toRelease c i ↔ ∃ l, s.relays.nodes.state n = .parked c l ∧ i.lineOf n ≠ some l := by
  simp [State.toRelease, NodeTable.mem_parkedOn h]

theorem State.toRelease_eq_nil {s : State} (h : s.relays.nodes.wf = true) (c : Chan) (i : Instance) :
    s.toRelease c i = [] ↔ ¬ ∃ n l, s.relays.nodes.state n = .parked c l ∧ i.lineOf n ≠ some l := by
  rw [List.eq_nil_iff_forall_not_mem, not_exists]
  exact forall_congr' fun n => not_congr (State.mem_toRelease h c i n)

theorem State.pairwise_toRelease {s : State} (h : s.relays.nodes.wf = true) (c : Chan) (i : Instance) :
    (s.toRelease c i).Pairwise (· < ·) :=
  (NodeTable.pairwise_parkedOn h c).sublist (List.filter_sublist.map _)

/-! ## The dispatch in two cases -/

/-- The channel as a dispatch takes it: in CONNECTING with attempt 1, the Settle Monitor emptied (R83, R103). -/
def Channel.taken (x : Channel) (i : Instance) : Channel :=
  { x with running := some { inst := i, attempt := 1, phase := .connecting .close }, monitor := .empty }

/-- The state of a dispatch before its release entry or its close phase. -/
def State.dispatching (s : State) (e : WindowEntry) (c : Chan) : State :=
  (((s.withWindow (s.disp.window.filter fun x => !(decide (x.inst.key = e.inst.key)))).noteExam).withChan c
    ((s.chan c).taken e.inst)).withRelays { s.relays with
      nodes := sortParked s.relays.nodes c e.inst
      waitList := s.relays.waitList.filter fun w => !(decide (w = { ch := c, cause := .endRun })) }

theorem State.dispatching_chan (s : State) (e : WindowEntry) (c d : Chan) :
    (s.dispatching e c).chan d = if d = c then (s.chan c).taken e.inst else s.chan d :=
  State.withChan_chan _ c d _

theorem State.dispatching_running (s : State) (e : WindowEntry) (c : Chan) :
    ((s.dispatching e c).chan c).running = some { inst := e.inst, attempt := 1, phase := .connecting .close } := by
  rw [State.dispatching_chan, if_pos rfl]
  rfl

theorem State.dispatchTo_close {s : State} {e : WindowEntry} {c : Chan} (h : s.toRelease c e.inst = []) :
    s.dispatchTo e c = ((s.dispatching e c).closePhase c).offer (emitted .dispatch 1 c e.inst) := by
  unfold State.dispatchTo State.connectFor
  exact congrArg (State.offer · (emitted .dispatch 1 c e.inst)) (if_pos h)

/-- The state of a dispatch with nodes to release, before its DISPATCH event. -/
def State.releasing (s : State) (e : WindowEntry) (c : Chan) : State :=
  ((s.dispatching e c).setPhase c (.connecting .release)).appendEntry c .dispatch (s.toRelease c e.inst)

theorem State.dispatchTo_release {s : State} {e : WindowEntry} {c : Chan} (h : s.toRelease c e.inst ≠ []) :
    s.dispatchTo e c = (s.releasing e c).offer (emitted .dispatch 1 c e.inst) := by
  unfold State.dispatchTo State.connectFor
  exact congrArg (State.offer · (emitted .dispatch 1 c e.inst)) (if_neg h)

/-! ## With nodes to release -/

theorem State.releasing_chan (s : State) (e : WindowEntry) (c d : Chan) :
    (s.releasing e c).chan d =
      if d = c then { (s.chan c).taken e.inst with
        running := some { inst := e.inst, attempt := 1, phase := .connecting .release } }
      else s.chan d := by
  unfold State.releasing State.setPhase
  simp only [State.dispatching_running]
  refine (State.withChan_chan (s.dispatching e c) c d _).trans ?_
  rw [State.dispatching_chan, State.dispatching_chan, if_pos rfl]
  by_cases hd : d = c <;> simp [hd]

theorem State.dispatching_get {s : State} (h : s.relays.nodes.wf = true) (e : WindowEntry) (c : Chan) (n : Node) :
    (s.dispatching e c).relays.nodes.get n = sortedEntry c e.inst n (s.relays.nodes.get n) :=
  get_sortParked h c e.inst n

/-- The nodes to release are still PARKED when the others have been sorted. -/
theorem State.dispatching_toRelease {s : State} (h : s.relays.nodes.wf = true) (e : WindowEntry) {c : Chan} {n : Node}
    {l : Line} (hn : s.relays.nodes.state n = .parked c l) (hl : e.inst.lineOf n ≠ some l) :
    (s.dispatching e c).relays.nodes.state n = .parked c l := by
  unfold NodeTable.state at hn ⊢
  rw [State.dispatching_get h]
  simp [sortedEntry, hn, hl]

/-- The channel's END item leaves the wait list, and no batch changes (R49). -/
theorem State.releasing_relays_eq (s : State) (e : WindowEntry) (c : Chan) :
    (s.releasing e c).relays = { s.relays with
      nodes := (s.releasing e c).relays.nodes, queue := (s.releasing e c).relays.queue
      waitList := s.relays.waitList.filter fun w => decide (w ≠ { ch := c, cause := .endRun })
      drive := (s.releasing e c).relays.drive } := by
  have hrelays : ((s.dispatching e c).setPhase c (.connecting .release)).relays = (s.dispatching e c).relays :=
    State.setPhase_relays _ _ _
  unfold State.releasing State.appendEntry
  simp only [State.withRelays_relays, hrelays, ne_eq, decide_not]
  rfl

/-- The relays of a dispatch with nodes to release (R41): one DISPATCH entry, and each node by the state it had. -/
theorem State.releasing_relays {s : State} (h : s.relays.nodes.wf = true) (e : WindowEntry) (c : Chan) :
    (∃ xs, appended s.time s.relays (s.releasing e c).relays .dispatch [c]
      (fun _ n => ∃ l, s.relays.nodes.state n = .parked c l ∧ e.inst.lineOf n ≠ some l) xs) ∧
      ∀ n, ((s.releasing e c).relays.nodes.get n).closeCount = (s.relays.nodes.get n).closeCount ∧
        (s.releasing e c).relays.nodes.state n =
          match s.relays.nodes.state n with
          | .parked d l => if d = c then (if e.inst.lineOf n = some l then .held c l else .opening c) else .parked d l
          | .free none => if n ∈ e.inst.nodes.map Prod.fst then .free (some c) else .free none
          | y => y := by
  set w := (s.dispatching e c).setPhase c (.connecting .release)
  have hrelays : w.relays = (s.dispatching e c).relays := State.setPhase_relays _ _ _
  have htime : w.time = s.time := State.setPhase_time _ _ _
  have hmem := State.mem_toRelease h c e.inst
  have hwf : w.relays.nodes.wf = true := by rw [hrelays]; exact wf_sortParked h c e.inst
  have hstate : ∀ n l, s.relays.nodes.state n = .parked c l → e.inst.lineOf n ≠ some l →
      w.relays.nodes.state n = .parked c l := fun n l hn hl => by
    rw [hrelays]; exact State.dispatching_toRelease h e hn hl
  constructor
  · have happ := w.appended_appendEntry c .dispatch (State.pairwise_toRelease h c e.inst)
      (covered := fun _ n => ∃ l, s.relays.nodes.state n = .parked c l ∧ e.inst.lineOf n ≠ some l) hmem
    rw [htime] at happ
    refine ⟨_, appended_owner_congr happ (by rw [hrelays]; rfl) (by rw [hrelays]; rfl) (by rw [hrelays]; rfl)
      fun n ⟨l, hn, hl⟩ => hn.trans (hstate n l hn hl).symm⟩
  · intro n
    obtain ⟨hcount, hopen, hstay⟩ := State.appendEntry_nodes hwf c .dispatch (s.toRelease c e.inst) (fun m hm => by
      obtain ⟨l, hn, hl⟩ := (hmem m).1 hm
      rw [hstate m l hn hl]
      rfl) n
    rw [hmem] at hopen hstay
    have hsorted : w.relays.nodes.get n = sortedEntry c e.inst n (s.relays.nodes.get n) := by
      rw [hrelays]; exact State.dispatching_get h e c n
    refine ⟨hcount.trans ((congrArg NodeEntry.closeCount hsorted).trans (sortedEntry_closeCount _ _ _ _)), ?_⟩
    by_cases hn : ∃ l, s.relays.nodes.state n = .parked c l ∧ e.inst.lineOf n ≠ some l
    · refine (hopen hn).trans ?_
      obtain ⟨l, hn, hl⟩ := hn
      simp [hn, hl]
    · refine (hstay hn).trans ((congrArg NodeEntry.state hsorted).trans ?_)
      unfold NodeTable.state at hn ⊢
      unfold sortedEntry
      cases hx : (s.relays.nodes.get n).state with
      | parked d l =>
        by_cases hd : d = c
        · subst hd
          have hl : e.inst.lineOf n = some l := by
            by_contra hl
            exact hn ⟨l, hx, hl⟩
          simp [hl]
        · simp [hd, hx]
      | free x =>
        cases x
        · by_cases hm : n ∈ e.inst.nodes.map Prod.fst
          · simp only [if_pos hm]
          · simp only [if_neg hm, hx]
        · exact hx
      | closing _ _ | held _ _ | opening _ => exact hx

/-! ## With none to release -/

/-- The close phase of a dispatch closes the nodes that were FREE before it. -/
theorem State.dispatching_toClose {s : State} (h : s.relays.nodes.wf = true) (e : WindowEntry) (c : Chan)
    (hready : ∀ n ∈ e.inst.nodes.map Prod.fst, s.relays.nodes.state n = .free none ∨
      ∃ l, s.relays.nodes.state n = .parked c l) :
    (s.dispatching e c).toClose e.inst =
      e.inst.nodes.filter fun q => decide (s.relays.nodes.state q.1 = .free none) := by
  unfold State.toClose
  refine List.filter_congr fun q hq => ?_
  have hmem : q.1 ∈ e.inst.nodes.map Prod.fst := List.mem_map_of_mem hq
  have hr := hready q.1 hmem
  unfold NodeTable.state at hr ⊢
  rw [State.dispatching_get h]
  rcases hr with hx | ⟨l, hx⟩
  · simp only [sortedEntry, hx, if_pos hmem, NodeState.isFree, decide_true]
  · by_cases hl : e.inst.lineOf q.1 = some l <;> simp [sortedEntry, hx, hl, NodeState.isFree]

/-- With none to release, each node after the close phase by the state it had and the line needed. -/
theorem State.dispatching_closePhase_get {s : State} (hwf : s.relays.nodes.wf = true) (hp : s.countersPassive)
    (e : WindowEntry) (c : Chan) (hnd : (e.inst.nodes.map Prod.fst).Nodup)
    (hclose : (s.dispatching e c).toClose e.inst =
      e.inst.nodes.filter fun q => decide (s.relays.nodes.state q.1 = .free none))
    (hrel : ¬ ∃ n l, s.relays.nodes.state n = .parked c l ∧ e.inst.lineOf n ≠ some l) (n : Node) :
    ((s.dispatching e c).closePhase c).relays.nodes.get n =
      match s.relays.nodes.state n, e.inst.lineOf n with
      | .parked d l, _ => { s.relays.nodes.get n with state := if d = c then .held c l else .parked d l }
      | .free none, some l =>
        { state := .closing c l, closeCount := min 16777215 ((s.relays.nodes.get n).closeCount + 1) }
      | _, _ => s.relays.nodes.get n := by
  have hwf' : (s.dispatching e c).relays.nodes.wf = true := wf_sortParked hwf c e.inst
  have hrun := s.dispatching_running e c
  have hget := State.dispatching_get hwf e c n
  have hstay : ¬ (n ∈ e.inst.nodes.map Prod.fst ∧ s.relays.nodes.state n = .free none) →
      ((s.dispatching e c).closePhase c).relays.nodes.get n = sortedEntry c e.inst n (s.relays.nodes.get n) := by
    intro hn
    refine ((State.closePhase_leaves (s := s.dispatching e c) hp hwf' hrun).node n fun hc => ?_).trans hget
    rw [hclose] at hc
    obtain ⟨q, hq, rfl⟩ := List.mem_map.1 hc
    obtain ⟨hq, hf⟩ := List.mem_filter.1 hq
    exact hn ⟨List.mem_map_of_mem hq, by simpa using hf⟩
  have hmem : ∀ l, e.inst.lineOf n = some l → s.relays.nodes.state n = .free none →
      ((s.dispatching e c).closePhase c).relays.nodes.get n =
        closedEntry c l (sortedEntry c e.inst n (s.relays.nodes.get n)) := by
    intro l hl hf
    rw [← hget]
    refine State.closePhase_get_mem hwf' hrun hnd ?_
    rw [hclose, List.mem_filter]
    exact ⟨(Instance.lineOf_eq_some hnd n l).1 hl, by simpa using hf⟩
  have hkey := e.inst.lineOf_eq_none n
  have hline : ∀ l, s.relays.nodes.state n = .parked c l → e.inst.lineOf n = some l := fun l hl => by
    by_contra hne
    exact hrel ⟨n, l, hl, hne⟩
  unfold NodeTable.state at hstay hmem hline ⊢
  generalize s.relays.nodes.get n = x at *
  obtain ⟨x, k⟩ := x
  cases x with
  | parked d l =>
    rw [hstay (by simp)]
    by_cases hd : d = c
    · subst hd
      simp [sortedEntry, hline l rfl]
    · simp [sortedEntry, hd]
  | free x =>
    cases x with
    | none =>
      cases hl : e.inst.lineOf n with
      | none =>
        have hno := hkey.1 hl
        rw [hstay fun h => hno h.1]
        simp only [sortedEntry, if_neg hno]
      | some l =>
        rw [hmem l hl rfl]
        simp only [closedEntry, sortedEntry_closeCount]
    | some d => rw [hstay (by simp)]; rfl
  | closing _ _ | held _ _ | opening _ => rw [hstay (by simp)]; rfl

/-! ## The dispatch whole -/

theorem State.offer_chan (s : State) (o : Occurrence) (d : Chan) : (s.offer o).chan d = s.chan d := by
  unfold State.chan
  rw [State.offer_chans]

/-- A dispatch takes its channel's END item off the wait list, and leaves every other channel and batch (R49). -/
theorem State.dispatchTo_leaves {s : State} (hwf : s.relays.nodes.wf = true) (hp : s.countersPassive) (e : WindowEntry)
    (c : Chan) :
    (s.dispatchTo e c).relays.waitList =
        s.relays.waitList.filter (fun w => decide (w ≠ { ch := c, cause := .endRun })) ∧
      ∀ d, d ≠ c → (s.dispatchTo e c).chan d = s.chan d ∧
        (s.dispatchTo e c).relays.batches.get d = s.relays.batches.get d := by
  by_cases h : s.toRelease c e.inst = []
  · have hleaves := State.closePhase_leaves (s := s.dispatching e c) hp (wf_sortParked hwf c e.inst)
      (s.dispatching_running e c)
    rw [State.dispatchTo_close h, State.offer_relays]
    refine ⟨?_, fun d hd => ⟨?_, ?_⟩⟩
    · rw [hleaves.relays]
      simp only [ne_eq, decide_not]
      rfl
    · rw [State.offer_chan, hleaves.chan d hd, State.dispatching_chan, if_neg hd]
    · rw [hleaves.batch d hd]
      rfl
  · rw [State.dispatchTo_release h, State.offer_relays]
    refine ⟨?_, fun d hd => ⟨?_, ?_⟩⟩
    · rw [State.releasing_relays_eq]
    · rw [State.offer_chan, State.releasing_chan, if_neg hd]
    · rw [State.releasing_relays_eq]

/-- Settles O28: with nodes to release by `releasing_relays`; with none, the close phase of the sorted nodes. -/
theorem dispatchTaken : Obligations.DispatchTaken := by
  unfold Obligations.DispatchTaken
  intro s e c hwf hp hidle hnd hready i t release emptied closed close
  obtain ⟨hcalm, hdisp⟩ := State.dispatchTo_passive hp e c
  obtain ⟨hwait, hother⟩ := State.dispatchTo_leaves hwf hp e c
  refine ⟨?_, hwait, hother, hcalm.plan, hcalm.sites, hcalm.results, hcalm.run, ?_⟩
  · rw [hdisp]
    simp only [ne_eq, decide_not]
    rfl
  by_cases hr : release
  · have ht : t = (s.releasing e c).offer (emitted .dispatch 1 c i) :=
      State.dispatchTo_release fun h => (State.toRelease_eq_nil hwf c e.inst).1 h hr
    obtain ⟨happ, hnodes⟩ := State.releasing_relays hwf e c
    have hc := s.releasing_chan e c c
    rw [if_pos rfl] at hc
    rw [ht, State.offer_relays, State.offer_chan, hc]
    refine ⟨fun _ => ?_, fun hno => absurd hr hno, fun _ => ⟨rfl, rfl, rfl, ?_, happ, hnodes⟩, fun hno => absurd hr hno⟩
    · exact State.offer_counters_congr (s := s.releasing e c) (t := s) (State.setPhase_counters _ _ _) _
    · rw [State.releasing_relays_eq]
  · have ht : t = ((s.dispatching e c).closePhase c).offer (emitted .dispatch 1 c i) :=
      State.dispatchTo_close ((State.toRelease_eq_nil hwf c e.inst).2 hr)
    have hrun := s.dispatching_running e c
    have hclosed := State.dispatching_toClose hwf e c hready
    have hclose : closed = [] ↔ ¬ close := by simp [closed, close, i, List.filter_eq_nil_iff]
    have hqueue : ((s.dispatching e c).closePhase c).relays.queue = s.relays.queue := by
      rw [(State.closePhase_leaves (s := s.dispatching e c) hp (wf_sortParked hwf c e.inst) hrun).relays]
      rfl
    have hnodes := State.dispatching_closePhase_get hwf hp e c hnd hclosed hr
    rw [ht, State.offer_relays, State.offer_chan]
    by_cases hcl : close
    · obtain ⟨hch, hbatch, hdrive, hcount⟩ := State.closePhase_closes hrun fun h => hclose.1 (hclosed.symm.trans h) hcl
      rw [hclosed] at hbatch hdrive hcount
      refine ⟨fun h => h.elim (absurd · hr) (absurd hcl), fun _ _ => ?_, (absurd · hr),
        fun _ => ⟨hqueue, hnodes, fun _ => ?_, (absurd hcl ·)⟩⟩
      · exact State.offer_counters_congr (t := s.offer (emitted .close closed.length c i)) (hcount.trans
          (State.counted_congr (s := s.dispatching e c) (t := s) rfl _)) _
      · rw [hch, hdrive, hbatch, State.dispatching_chan, if_pos rfl]
        exact ⟨rfl, rfl, rfl, rfl, _, rfl, rfl, rfl⟩
    · have hmade := State.closePhase_of_none hrun (hclosed.trans (hclose.2 hcl))
      refine ⟨fun _ => ?_, fun _ h => absurd h hcl, (absurd · hr),
        fun _ => ⟨hqueue, hnodes, (absurd · hcl), fun _ => ?_⟩⟩
      · exact State.offer_counters_congr (t := s) (by rw [hmade]; rfl) _
      · rw [hmade, State.withChan_chan, if_pos rfl, State.dispatching_chan, if_pos rfl]
        refine ⟨rfl, rfl, fun hk => ?_, fun hk => Channel.connected_stimulus _ hk⟩
        rw [Channel.connected_discharge _ hk]
        exact ⟨rfl, rfl, rfl⟩

end Sys2Proof.Machine
end

section
/-! A recall (R50, R73): O29. -/

namespace Sys2Proof.Machine

/-! ## The decision to recall (R61, R73) -/

/-- An examination recalls for an entry from every owner, where there is one and there are slots for all. -/
theorem State.decideEntry_recall {s : State} {older : List WindowEntry} {e : WindowEntry} {owners : List Chan}
    (h : s.decideEntry older e = .recall owners) :
    ∃ c, s.choose e.inst = some c ∧ owners = s.recallOwners e.inst c ∧ owners ≠ [] ∧ owners.length ≤ s.freeSlots := by
  have hchan : s.decideChannel e.inst = .recall owners := by
    unfold State.decideEntry at h
    split at h
    · cases h
    · split at h
      · cases h
      · split at h
        · cases h
        · split at h
          · cases h
          · exact h
  unfold State.decideChannel at hchan
  split at hchan
  next => cases hchan
  next c hc =>
    split at hchan
    next hne =>
      split at hchan
      next hlen =>
        cases hchan
        exact ⟨c, hc, rfl, hne, hlen⟩
      next => cases hchan
    next => split at hchan <;> cases hchan

theorem State.mem_parkedFor {s : State} (h : s.relays.nodes.wf = true) (i : Instance) (c : Chan) (n : Node) :
    n ∈ s.parkedFor i c ↔ n ∈ i.nodes.map Prod.fst ∧ ∃ l, s.relays.nodes.state n = .parked c l := by
  simp [State.parkedFor, NodeTable.mem_parkedOn h, Instance.uses, and_comm]

theorem State.pairwise_parkedFor {s : State} (h : s.relays.nodes.wf = true) (i : Instance) (c : Chan) :
    (s.parkedFor i c).Pairwise (· < ·) :=
  (NodeTable.pairwise_parkedOn h c).sublist (List.filter_sublist.map _)

theorem State.mem_recallOwners {s : State} (h : s.relays.nodes.wf = true) (i : Instance) (c d : Chan) :
    d ∈ s.recallOwners i c ↔ d ≠ c ∧ ∃ n ∈ i.nodes.map Prod.fst, ∃ l, s.relays.nodes.state n = .parked d l := by
  have hne : s.parkedFor i d ≠ [] ↔ ∃ n ∈ i.nodes.map Prod.fst, ∃ l, s.relays.nodes.state n = .parked d l := by
    rw [ne_eq, List.eq_nil_iff_forall_not_mem, not_forall_not]
    exact exists_congr fun n => State.mem_parkedFor h i d n
  unfold State.recallOwners
  rw [List.mem_filter, ← hne]
  simp [mem_allChans]

theorem State.pairwise_recallOwners (s : State) (i : Instance) (c : Chan) :
    (s.recallOwners i c).Pairwise (· < ·) :=
  List.Pairwise.sublist List.filter_sublist (by decide : allChans.Pairwise (· < ·))

/-! ## Entries appended one after another -/

/-- An entry of one owner, then those of the others, whose nodes the first has left as they were. -/
theorem appended_cons {now : Time} {r r1 t : RelayMap} {cause : ReleaseCause} {c : Chan} {ds : List Chan}
    {covered : Chan → Node → Prop} {x : ReleaseEntry} {xs : List ReleaseEntry}
    (h1 : appended now r r1 cause [c] covered [x]) (hexp : expiryAfter now r1 = expiryAfter now r)
    (h : appended now r1 t cause ds covered xs)
    (hn : ∀ d ∈ ds, ∀ n, covered d n → r1.nodes.state n = r.nodes.state n) :
    appended now r t cause (c :: ds) covered (x :: xs) := by
  obtain ⟨hq1, hown1, hxs1, hdrive1⟩ := h1
  obtain ⟨hq, hown, hxs, hdrive⟩ := h
  refine ⟨by rw [hq, hq1, List.append_assoc]; rfl, ?_, ?_, ?_⟩
  · rw [List.map_cons, hown]
    exact congrArg (· ++ ds.map some) hown1
  · rw [hexp] at hxs
    exact List.forall_mem_cons.2 ⟨hxs1 x (List.mem_singleton_self x), hxs⟩
  · have hsame : xs.flatMap (fun x => opensOf r1.nodes x.nodes) = xs.flatMap fun x => opensOf r.nodes x.nodes := by
      refine List.flatMap_congr fun y hy => opensOf_congr fun n hyn => ?_
      have hmem : y.owner ∈ ds.map some := by rw [← hown]; exact List.mem_map_of_mem hy
      obtain ⟨d, hd, hyd⟩ := List.mem_map.1 hmem
      obtain ⟨-, -, -, hcov⟩ := hxs y hy
      exact hn d hd n ((hcov d hyd.symm n).1 hyn)
    rw [hdrive, hdrive1, hsame, List.flatMap_cons, List.append_assoc]
    simp

/-! ## The entries of a recall -/

/-- The RECALL event of a release entry (R50, R133). -/
def recallEvent (x : ReleaseEntry) : Occurrence :=
  { event := .recall, value := x.nodes.length, ch := x.owner.getD 0, site := none, group := none, outcome := none }

/-- One owner's part of a recall, on the nodes: its own OPENING, every other as it was. -/
theorem State.recallFrom_nodes {s : State} (h : s.relays.nodes.wf = true) (i : Instance) (c : Chan) (n : Node) :
    let t := State.recallFrom i s c
    (t.relays.nodes.get n).closeCount = (s.relays.nodes.get n).closeCount ∧
      (n ∈ s.parkedFor i c → t.relays.nodes.state n = .opening c) ∧
      (n ∉ s.parkedFor i c → t.relays.nodes.state n = s.relays.nodes.state n) := by
  intro t
  have ht : t.relays = (s.appendEntry c .recall (s.parkedFor i c)).relays := State.offer_relays _ _
  rw [ht]
  refine State.appendEntry_nodes h c .recall _ (fun m hm => ?_) n
  obtain ⟨-, l, hl⟩ := (State.mem_parkedFor h i c m).1 hm
  rw [hl]
  rfl

/-- One owner's part of a recall leaves the nodes parked on other channels, and parks none. -/
theorem State.recallFrom_parked {s : State} (h : s.relays.nodes.wf = true) (i : Instance) {c d : Chan} (hd : d ≠ c)
    (n : Node) (l : Line) :
    (State.recallFrom i s c).relays.nodes.state n = .parked d l ↔ s.relays.nodes.state n = .parked d l := by
  obtain ⟨-, hopen, hstay⟩ := State.recallFrom_nodes h i c n
  by_cases hn : n ∈ s.parkedFor i c
  · obtain ⟨-, k, hk⟩ := (State.mem_parkedFor h i c n).1 hn
    rw [hopen hn, hk]
    simp [Ne.symm hd]
  · rw [hstay hn]

/-- The recall's entries, one for each owner, with their events and their nodes (R50, R73). -/
theorem recallFrom_foldl (i : Instance) (ds : List Chan) (hds : ds.Nodup) (s : State)
    (h : s.relays.nodes.wf = true) (covered : Chan → Node → Prop)
    (hcov : ∀ d ∈ ds, ∀ n, covered d n ↔ n ∈ i.nodes.map Prod.fst ∧ ∃ l, s.relays.nodes.state n = .parked d l) :
    let t := ds.foldl (State.recallFrom i) s
    (∃ xs, appended s.time s.relays t.relays .recall ds covered xs ∧ t.counters = s.counted (xs.map recallEvent)) ∧
      ∀ n, (t.relays.nodes.get n).closeCount = (s.relays.nodes.get n).closeCount ∧
        (∀ d ∈ ds, covered d n → t.relays.nodes.state n = .opening d) ∧
        ((∀ d ∈ ds, ¬ covered d n) → t.relays.nodes.state n = s.relays.nodes.state n) := by
  induction ds generalizing s with
  | nil => exact ⟨⟨[], ⟨by simp, rfl, by simp, by simp⟩, rfl⟩, fun n => ⟨rfl, by simp, fun _ => rfl⟩⟩
  | cons c ds ih =>
    rw [List.nodup_cons] at hds
    obtain ⟨hc, hnd⟩ := hds
    set r := State.recallFrom i s c
    have hrelays : r.relays = (s.appendEntry c .recall (s.parkedFor i c)).relays := State.offer_relays _ _
    have htime : r.time = s.time := State.offer_time _ _
    have hne : ∀ d ∈ ds, d ≠ c := fun d hd he => hc (he ▸ hd)
    have hmem : ∀ n, n ∈ s.parkedFor i c ↔ covered c n := fun n =>
      (State.mem_parkedFor h i c n).trans (hcov c (List.mem_cons_self ..) n).symm
    have hnode := State.recallFrom_nodes h i c
    have hwf : r.relays.nodes.wf = true := by rw [hrelays]; exact State.wf_appendEntry h _ _ _
    obtain ⟨⟨xs, happ, hcount⟩, hnodes⟩ := ih hnd r hwf fun d hd n => by
      rw [hcov d (List.mem_cons_of_mem _ hd) n]
      exact and_congr_right fun _ => exists_congr fun l => (State.recallFrom_parked h i (hne d hd) n l).symm
    have hout : ∀ d ∈ ds, ∀ n, covered d n → n ∉ s.parkedFor i c := by
      intro d hd n hdn hcn
      obtain ⟨-, l, hl⟩ := (hcov d (List.mem_cons_of_mem _ hd) n).1 hdn
      obtain ⟨-, k, hk⟩ := (State.mem_parkedFor h i c n).1 hcn
      rw [hl] at hk
      cases hk
      exact hc hd
    have h1 := s.appended_appendEntry c .recall (State.pairwise_parkedFor h i c) hmem
    have hexp := s.expiryAfter_appendEntry c .recall (s.parkedFor i c)
    rw [← hrelays] at h1 hexp
    rw [htime] at happ
    refine ⟨⟨_, appended_cons h1 hexp happ fun d hd n hdn => (hnode n).2.2 (hout d hd n hdn), ?_⟩, fun n => ?_⟩
    · set x := s.entryFor c .recall (s.parkedFor i c)
      refine hcount.trans (State.counted_congr (t := s.offer (recallEvent x)) ?_ _)
      exact State.offer_counters_congr (s := s.appendEntry c .recall (s.parkedFor i c)) (t := s) rfl _
    · obtain ⟨hcount1, hopen1, hstay1⟩ := hnode n
      obtain ⟨hcount2, hopen2, hstay2⟩ := hnodes n
      refine ⟨hcount2.trans hcount1, fun d hd hdn => ?_, fun hno => ?_⟩
      · rcases List.mem_cons.1 hd with rfl | hd
        · exact (hstay2 fun d' hd' hn' => hout d' hd' n hn' ((hmem n).2 hdn)).trans (hopen1 ((hmem n).2 hdn))
        · exact hopen2 d hd hdn
      · exact (hstay2 fun d hd => hno d (List.mem_cons_of_mem _ hd)).trans
          (hstay1 fun hn => hno c (List.mem_cons_self ..) ((hmem n).1 hn))

/-- Settles O29: the decision names the owners, and the recall appends their entries one after another. -/
theorem recallIssued : Obligations.RecallIssued := by
  unfold Obligations.RecallIssued
  intro s older e owners hwf hp hdec t wanted
  obtain ⟨c, hchoose, howners, hne, hlen⟩ := State.decideEntry_recall hdec
  have hmem := State.mem_recallOwners hwf e.inst c
  have hpairs := s.pairwise_recallOwners e.inst c
  rw [← howners] at hmem hpairs
  obtain ⟨hcalm, hdisp⟩ := State.issueRecall_passive hp e owners
  set m := s.markEntry e.inst.key .recall (owners.flatMap fun d => s.parkedFor e.inst d)
  obtain ⟨⟨xs, happ, hcount⟩, hnodes⟩ := recallFrom_foldl e.inst owners (hpairs.imp ne_of_lt) m hwf
    (fun d n => wanted n d) fun d hd n => and_iff_right hd
  refine ⟨hne, ?_, hpairs, ⟨c, hchoose, hmem⟩,
    ⟨xs, happ, hcount.trans (State.counted_congr (s := m) (t := s) rfl _)⟩,
    State.issueRecall_chans _ _ _, hcalm.plan, fun n => ?_,
    owners.flatMap fun d => s.parkedFor e.inst d, fun n => ?_, ?_⟩
  · have hpos := List.length_pos_of_ne_nil hne
    unfold State.freeSlots Config.releaseSlots at hlen
    omega
  · obtain ⟨hcount, hopen, hstay⟩ := hnodes n
    exact ⟨hcount, fun d hd => hopen d hd.1 hd, fun hno => hstay fun d _ => hno d⟩
  · rw [List.mem_flatMap]
    exact exists_congr fun d => and_congr_right fun _ => State.mem_parkedFor hwf e.inst d n
  · rw [hdisp]
    rfl

end Sys2Proof.Machine
end

section
/-! SUPPORT. The checks of an examination (R61 to R70, R73), each in terms of the window, the nodes and the channels,
and the decisions they lead to. -/

namespace Sys2Proof.Machine

/-! ## The checks -/

theorem barrierCovers_iff (b x : Site) : barrierCovers b x = true ↔ b = .panel ∨ x = b := by
  cases b <;> simp [barrierCovers]

theorem State.mem_channelInsts (s : State) (i : Instance) : i ∈ s.channelInsts ↔ ∃ d, s.instIn d = some i := by
  simp [State.channelInsts, mem_allChans]

/-- A barrier holds an instance back (R64, R65): its own, or that of an older entry. -/
theorem State.barrier_iff (s : State) (older : List WindowEntry) (i : Instance) :
    (s.barrierUnsatisfied older i || behindBarrier older i) = true ↔
      (i.step.barrier = true ∧ ((∃ o ∈ older, i.site = .panel ∨ o.inst.site = i.site) ∨
        ∃ d x, s.instIn d = some x ∧ (i.site = .panel ∨ x.site = i.site))) ∨
      ∃ o ∈ older, o.inst.step.barrier = true ∧ (o.inst.site = .panel ∨ i.site = o.inst.site) := by
  have hchan : (∃ x ∈ s.channelInsts, i.site = .panel ∨ x.site = i.site) ↔
      ∃ d x, s.instIn d = some x ∧ (i.site = .panel ∨ x.site = i.site) := by
    simp only [State.mem_channelInsts]
    exact ⟨fun ⟨x, ⟨d, hd⟩, hx⟩ => ⟨d, x, hd, hx⟩, fun ⟨d, x, hd, hx⟩ => ⟨x, ⟨d, hd⟩, hx⟩⟩
  simp only [State.barrierUnsatisfied, behindBarrier, Bool.or_eq_true, Bool.and_eq_true, List.any_eq_true,
    barrierCovers_iff, hchan]

/-- An older waiting instance uses one of the nodes (R66). -/
theorem orderBlocked_iff (older : List WindowEntry) (i : Instance) :
    orderBlocked older i = true ↔
      ∃ o ∈ older, ∃ n ∈ i.nodes.map Prod.fst, n ∈ o.inst.nodes.map Prod.fst := by
  simp only [orderBlocked, Instance.shares, Instance.uses, List.any_eq_true, decide_eq_true_eq, List.mem_map,
    exists_exists_and_eq_and]

/-- A node is available: FREE and unclaimed, or PARKED on an IDLE channel (R37, R67). -/
theorem State.available_iff (s : State) (n : Node) :
    s.available n = true ↔ s.relays.nodes.state n = .free none ∨
      ∃ d l, s.relays.nodes.state n = .parked d l ∧ (s.chan d).running = none := by
  unfold State.available
  cases s.relays.nodes.state n with
  | free x => cases x <;> simp
  | parked d l => simp [State.chanIdle_iff]
  | closing _ _ | held _ _ | opening _ => simp

theorem State.mem_unavailable (s : State) (i : Instance) (n : Node) :
    n ∈ s.unavailable i ↔ n ∈ i.nodes.map Prod.fst ∧ s.available n = false := by
  simp [State.unavailable]

theorem State.unavailable_eq_nil (s : State) (i : Instance) :
    s.unavailable i = [] ↔ ∀ n ∈ i.nodes.map Prod.fst, s.available n = true := by
  simp only [List.eq_nil_iff_forall_not_mem, State.mem_unavailable, not_and, Bool.not_eq_false]

theorem State.recalledOpening_iff (s : State) (e : WindowEntry) (n : Node) :
    s.recalledOpening e n = true ↔ (∃ d, s.relays.nodes.state n = .opening d) ∧ n ∈ e.recallSet := by
  unfold State.recalledOpening
  cases s.relays.nodes.state n <;> simp [NodeState.isOpening]

/-! ## The choice of a channel (R68) -/

theorem State.mem_candidates (s : State) (c : Chan) :
    c ∈ s.candidates ↔ s.run.enabled.getLsbD c.val = true ∧ (s.chan c).running = none := by
  simp [State.candidates, mem_allChans, State.chanEnabled, State.chanIdle_iff]

theorem State.choose_mem_candidates {s : State} {i : Instance} {c : Chan} (h : s.choose i = some c) :
    c ∈ s.candidates := by
  unfold State.choose at h
  split at h
  next => cases h
  next c' cs hc =>
    obtain rfl := Option.some.inj h
    rw [hc]
    exact bestOf_mem _ _ _

theorem State.choose_eq_none {s : State} (h : s.candidates = []) (i : Instance) : s.choose i = none := by
  unfold State.choose; rw [h]

/-! ## The decision from the choice of a channel on -/

theorem State.decideChannel_none {s : State} {i : Instance} (h : s.choose i = none) :
    s.decideChannel i = .hold .channel := by
  unfold State.decideChannel; rw [h]

theorem State.decideChannel_owners {s : State} {i : Instance} {c : Chan} (h : s.choose i = some c)
    (ho : s.recallOwners i c ≠ []) :
    s.decideChannel i = if s.relays.queue.length + (s.recallOwners i c).length ≤ 8 then .recall (s.recallOwners i c)
      else .hold .queue := by
  have hpos := List.length_pos_of_ne_nil ho
  have hroom : (s.recallOwners i c).length ≤ s.freeSlots ↔
      s.relays.queue.length + (s.recallOwners i c).length ≤ 8 := by
    unfold State.freeSlots Config.releaseSlots; omega
  unfold State.decideChannel
  simp only [h, if_pos ho, hroom]

theorem State.decideChannel_no_owner {s : State} {i : Instance} {c : Chan} (h : s.choose i = some c)
    (ho : s.recallOwners i c = []) :
    s.decideChannel i =
      if s.toRelease c i ≠ [] ∧ 8 ≤ s.relays.queue.length then .hold .queue else .dispatch c := by
  unfold State.decideChannel
  simp only [h, ho, ne_eq, not_true_eq_false, if_false]
  refine if_congr ?_ rfl rfl
  rw [Bool.and_eq_true, decide_eq_true_eq, Bool.not_eq_true', Bool.eq_false_iff, ne_eq, State.slotFree_iff, not_lt]

/-- A dispatch is decided where a channel is chosen, no other holds a node of the instance parked, and a slot is free
for the nodes to release. -/
theorem State.decideChannel_dispatch {s : State} {i : Instance} {c : Chan} (h : s.decideChannel i = .dispatch c) :
    s.choose i = some c ∧ s.recallOwners i c = [] ∧ (s.toRelease c i ≠ [] → s.relays.queue.length < 8) := by
  cases hc : s.choose i with
  | none => rw [State.decideChannel_none hc] at h; cases h
  | some d =>
    by_cases ho : s.recallOwners i d = []
    · rw [State.decideChannel_no_owner hc ho] at h
      split at h
      next => cases h
      next hq =>
        cases h
        exact ⟨rfl, ho, fun hr => Nat.lt_of_not_le fun hle => hq ⟨hr, hle⟩⟩
    · rw [State.decideChannel_owners hc ho] at h
      split at h <;> cases h

/-! ## The decision -/

/-- An entry passes the checks before the choice of a channel. -/
structure State.Eligible (s : State) (older : List WindowEntry) (i : Instance) : Prop where
  paused : s.disp.paused = false
  barrier : (s.barrierUnsatisfied older i || behindBarrier older i) = false
  order : orderBlocked older i = false
  available : s.unavailable i = []

theorem State.decideEntry_eligible {s : State} {older : List WindowEntry} {e : WindowEntry}
    (h : s.Eligible older e.inst) : s.decideEntry older e = s.decideChannel e.inst := by
  simp [State.decideEntry, h.paused, h.barrier, h.order, h.available]

/-- An entry that is not held back has passed the checks. -/
theorem State.eligible_of_decideEntry {s : State} {older : List WindowEntry} {e : WindowEntry}
    (h : ∀ why, s.decideEntry older e ≠ .hold why) : s.Eligible older e.inst := by
  unfold State.decideEntry at h
  split at h
  next => exact absurd rfl (h _)
  next hpaused =>
    split at h
    next => exact absurd rfl (h _)
    next hbarrier =>
      split at h
      next => exact absurd rfl (h _)
      next horder =>
        split at h
        next => exact absurd rfl (h _)
        next havail =>
          exact ⟨by simpa using hpaused, by simpa using hbarrier, by simpa using horder, not_not.1 havail⟩

theorem State.decideEntry_barrier {s : State} {older : List WindowEntry} {e : WindowEntry} (hp : s.disp.paused = false)
    (hb : (s.barrierUnsatisfied older e.inst || behindBarrier older e.inst) = true) :
    s.decideEntry older e = .hold .barrier := by
  simp [State.decideEntry, hp, hb]

theorem State.decideEntry_order {s : State} {older : List WindowEntry} {e : WindowEntry} (hp : s.disp.paused = false)
    (hb : (s.barrierUnsatisfied older e.inst || behindBarrier older e.inst) = false)
    (ho : orderBlocked older e.inst = true) : s.decideEntry older e = .hold .order := by
  simp [State.decideEntry, hp, hb, ho]

theorem State.decideEntry_unavailable {s : State} {older : List WindowEntry} {e : WindowEntry}
    (hp : s.disp.paused = false) (hb : (s.barrierUnsatisfied older e.inst || behindBarrier older e.inst) = false)
    (ho : orderBlocked older e.inst = false) (hu : s.unavailable e.inst ≠ []) :
    s.decideEntry older e =
      .hold (if ∀ n ∈ s.unavailable e.inst, s.recalledOpening e n = true then .recall else .node) := by
  simp [State.decideEntry, hp, hb, ho, hu, List.all_eq_true]

end Sys2Proof.Machine
end

section
/-! SUPPORT. What an examination decides (R61), in the terms of the statements. -/

namespace Sys2Proof.Machine

/-- A node of the instance waits for an OPENING node of its own recall alone (R67). -/
theorem State.recalled_iff (s : State) (e : WindowEntry) :
    (∀ n ∈ s.unavailable e.inst, s.recalledOpening e n = true) ↔
      ∀ n ∈ e.inst.nodes.map Prod.fst, ¬ s.available n = true →
        (∃ d, s.relays.nodes.state n = .opening d) ∧ n ∈ e.recallSet := by
  simp only [State.mem_unavailable, and_imp, Bool.not_eq_true, State.recalledOpening_iff]

/-- Two lists of channels in ascending number with the same members are the same. -/
theorem chans_eq_of_mem_iff {ds es : List Chan} (hd : ds.Pairwise (· < ·)) (he : es.Pairwise (· < ·))
    (h : ∀ c, c ∈ ds ↔ c ∈ es) : ds = es :=
  List.Perm.eq_of_pairwise (fun _ _ _ _ hab hba => absurd hab (lt_asymm hba)) hd he
    ((List.perm_ext_iff_of_nodup (hd.imp ne_of_lt) (he.imp ne_of_lt)).2 h)

/-- The decision for an entry that passes the checks and has a channel chosen (R68, R70, R73). -/
theorem State.decideEntry_chosen {s : State} (hwf : s.relays.nodes.wf = true) {older : List WindowEntry}
    {e : WindowEntry} (h : s.Eligible older e.inst) {c : Chan} (hc : s.choose e.inst = some c) :
    let owner (d : Chan) : Prop := d ≠ c ∧ ∃ n ∈ e.inst.nodes.map Prod.fst, ∃ l, s.relays.nodes.state n = .parked d l
    let release : Prop := ∃ n l, s.relays.nodes.state n = .parked c l ∧ e.inst.lineOf n ≠ some l
    (∀ owners : List Chan, owners ≠ [] → owners.Pairwise (· < ·) → (∀ d, d ∈ owners ↔ owner d) →
      s.decideEntry older e =
        if s.relays.queue.length + owners.length ≤ 8 then .recall owners else .hold .queue) ∧
    ((∀ d, ¬ owner d) → release → 8 ≤ s.relays.queue.length → s.decideEntry older e = .hold .queue) ∧
    ((∀ d, ¬ owner d) → (release → s.relays.queue.length < 8) → s.decideEntry older e = .dispatch c) := by
  intro owner release
  have howner : ∀ d, d ∈ s.recallOwners e.inst c ↔ owner d := State.mem_recallOwners hwf e.inst c
  have hnil : (∀ d, ¬ owner d) → s.recallOwners e.inst c = [] := fun hno =>
    List.eq_nil_iff_forall_not_mem.2 fun d hd => hno d ((howner d).1 hd)
  have hrelease : s.toRelease c e.inst ≠ [] ↔ release := not_iff_comm.1 (State.toRelease_eq_nil hwf c e.inst).symm
  rw [State.decideEntry_eligible h]
  refine ⟨fun owners hne hsorted hmem => ?_, fun hno hr hq => ?_, fun hno hq => ?_⟩
  · obtain rfl : owners = s.recallOwners e.inst c :=
      chans_eq_of_mem_iff hsorted (s.pairwise_recallOwners e.inst c) fun d => (hmem d).trans (howner d).symm
    exact State.decideChannel_owners hc hne
  · rw [State.decideChannel_no_owner hc (hnil hno), if_pos ⟨hrelease.2 hr, hq⟩]
  · rw [State.decideChannel_no_owner hc (hnil hno), if_neg fun hb => ?_]
    exact absurd hb.2 (Nat.not_le.2 (hq (hrelease.1 hb.1)))

/-- An entry dispatched is safe to dispatch (R61, R67, R68, R70). -/
theorem State.decideEntry_dispatch {s : State} (hwf : s.relays.nodes.wf = true) {older : List WindowEntry}
    {e : WindowEntry} {c : Chan} (h : s.decideEntry older e = .dispatch c) :
    s.Eligible older e.inst ∧ c ∈ s.candidates ∧
      (∀ n ∈ e.inst.nodes.map Prod.fst, s.relays.nodes.state n = .free none ∨
        ∃ l, s.relays.nodes.state n = .parked c l) ∧
      ((∃ n l, s.relays.nodes.state n = .parked c l ∧ e.inst.lineOf n ≠ some l) → s.relays.queue.length < 8) := by
  have helig : s.Eligible older e.inst := State.eligible_of_decideEntry fun why hw => by rw [h] at hw; cases hw
  rw [State.decideEntry_eligible helig] at h
  obtain ⟨hc, hno, hroom⟩ := State.decideChannel_dispatch h
  refine ⟨helig, State.choose_mem_candidates hc, fun n hn => ?_, fun hr =>
    hroom fun hnil => (State.toRelease_eq_nil hwf c e.inst).1 hnil hr⟩
  refine (s.available_iff n).1 ((s.unavailable_eq_nil e.inst).1 helig.available n hn) |>.imp_right ?_
  rintro ⟨d, l, hd, -⟩
  by_cases hdc : d = c
  · exact ⟨l, hdc ▸ hd⟩
  · have hmem := (State.mem_recallOwners hwf e.inst c d).2 ⟨hdc, n, hn, l, hd⟩
    rw [hno] at hmem
    exact absurd hmem List.not_mem_nil

/-- A mark that adds nothing to the recall set. -/
theorem State.markEntry_nil (s : State) (k : BankId × Nat × Site) (why : Blocked) :
    s.markEntry k why [] = s.withWindow (s.disp.window.map fun e =>
      if e.inst.key = k then { e with reason := why } else e) := by
  simp only [State.markEntry, List.append_nil]

/-! An entry's turn, by the decision for it (R61). -/

section Turn

variable {s : State} {k : BankId × Nat × Site} {e : WindowEntry} (h : s.entryOf k = some e)
include h

theorem State.examineEntry_hold {why : Blocked} (hd : s.decideEntry (s.olderThan k) e = .hold why) :
    s.examineEntry k = s.markEntry k why [] := by
  unfold State.examineEntry; simp only [h, hd]

theorem State.examineEntry_recall {owners : List Chan} (hd : s.decideEntry (s.olderThan k) e = .recall owners) :
    s.examineEntry k = s.issueRecall e owners := by
  unfold State.examineEntry; simp only [h, hd]

theorem State.examineEntry_dispatch {c : Chan} (hd : s.decideEntry (s.olderThan k) e = .dispatch c) :
    s.examineEntry k = s.dispatchTo e c := by
  unfold State.examineEntry; simp only [h, hd]

end Turn

end Sys2Proof.Machine
end

section
/-! SUPPORT. An examination leaves no entry that could be dispatched or recalled for (R61): a turn that takes no entry
out of the window answers its own entry, and leaves the older entries answered. -/

namespace Sys2Proof.Machine

/-! ## What a decision depends on -/

/-- A decision depends on the older entries' instances alone. -/
theorem State.decideEntry_insts (s : State) {older older' : List WindowEntry}
    (h : older'.map WindowEntry.inst = older.map WindowEntry.inst) (e : WindowEntry) :
    s.decideEntry older' e = s.decideEntry older e := by
  have hany : ∀ f : Instance → Bool, (older'.any fun o => f o.inst) = older.any fun o => f o.inst := fun f => by
    have hmap := congrArg (List.any · f) h
    simp only [List.any_map] at hmap
    exact hmap
  have hcover := hany fun x => barrierCovers e.inst.site x.site
  have hbehind := hany fun x => x.step.barrier && barrierCovers x.site e.inst.site
  have horder := hany fun x => e.inst.shares x
  simp only [State.decideEntry, State.barrierUnsatisfied, behindBarrier, orderBlocked, hcover, hbehind, horder]
  rfl

theorem State.olderThan_insts (s : State) (k : BankId × Nat × Site) :
    (s.olderThan k).map WindowEntry.inst =
      (s.disp.window.map WindowEntry.inst).takeWhile fun i => decide (i.key ≠ k) := by
  unfold State.olderThan
  rw [List.takeWhile_map]
  rfl

theorem State.decideEntry_olderThan {s t : State}
    (h : t.disp.window.map WindowEntry.inst = s.disp.window.map WindowEntry.inst) (u : State) (k : BankId × Nat × Site)
    (e : WindowEntry) : u.decideEntry (t.olderThan k) e = u.decideEntry (s.olderThan k) e :=
  u.decideEntry_insts (by rw [State.olderThan_insts, State.olderThan_insts, h]) e

/-! ## After a recall -/

/-- What a recall for the instance `i` leaves, as far as later decisions depend on it (R50, R73): the nodes recalled are
OPENING and every other is as it was, and the release queue, which had a free slot, has not grown shorter. -/
structure State.RecalledFor (s t : State) (i : Instance) (recalled : List Node) : Prop where
  paused : t.disp.paused = s.disp.paused
  run : t.run = s.run
  chans : t.chans = s.chans
  wf : t.relays.nodes.wf = true
  nonempty : recalled ≠ []
  opening : ∀ n ∈ recalled, n ∈ i.nodes.map Prod.fst ∧ ∃ d, t.relays.nodes.state n = .opening d
  stays : ∀ n, n ∉ recalled → t.relays.nodes.state n = s.relays.nodes.state n
  room : s.relays.queue.length < 8
  queue : s.relays.queue.length ≤ t.relays.queue.length

/-- Every recall that an examination decides is one. -/
theorem State.recalledFor_issueRecall {s : State} (hwf : s.relays.nodes.wf = true) (hp : s.countersPassive)
    {older : List WindowEntry} {e : WindowEntry} {owners : List Chan} (h : s.decideEntry older e = .recall owners) :
    ∃ recalled, s.RecalledFor (s.issueRecall e owners) e.inst recalled ∧
      (s.issueRecall e owners).disp.window = (s.markEntry e.inst.key .recall recalled).disp.window := by
  obtain ⟨hcalm, -⟩ := State.issueRecall_passive hp e owners
  obtain ⟨hne, hroom, -, ⟨c, -, howner⟩, ⟨xs, ⟨hqueue, -⟩, -⟩, hchans, -, hnodes, recalled, hmem, hwin⟩ :=
    recallIssued s older e owners hwf hp h
  have hpos := List.length_pos_of_ne_nil hne
  refine ⟨recalled, ⟨hcalm.paused, hcalm.run, hchans, hcalm.wf hwf, fun hnil => ?_, fun n hn => ?_, fun n hn => ?_,
    by omega, by rw [hqueue, List.length_append]; omega⟩, hwin⟩
  · obtain ⟨d, hd⟩ := List.exists_mem_of_ne_nil _ hne
    obtain ⟨-, n, hn, hl⟩ := (howner d).1 hd
    have := (hmem n).2 ⟨d, hd, hn, hl⟩
    rw [hnil] at this
    cases this
  · obtain ⟨d, hd⟩ := (hmem n).1 hn
    obtain ⟨-, hopen, -⟩ := hnodes n
    exact ⟨hd.2.1, d, hopen d hd⟩
  · obtain ⟨-, -, hstay⟩ := hnodes n
    exact hstay fun d hd => hn ((hmem n).2 ⟨d, hd⟩)

theorem State.RecalledFor.channelInsts {s t : State} {i : Instance} {ns : List Node} (h : s.RecalledFor t i ns) :
    t.channelInsts = s.channelInsts := by
  unfold State.channelInsts
  exact congrArg (List.filterMap · allChans) (funext fun d => State.instIn_of_chans h.chans d)

theorem State.RecalledFor.chanIdle {s t : State} {i : Instance} {ns : List Node} (h : s.RecalledFor t i ns) (d : Chan) :
    t.chanIdle d = s.chanIdle d := by
  unfold State.chanIdle State.chan; rw [h.chans]

/-- A node that is not recalled is available or not as before. -/
theorem State.RecalledFor.available {s t : State} {i : Instance} {ns : List Node} (h : s.RecalledFor t i ns) {n : Node}
    (hn : n ∉ ns) : t.available n = s.available n := by
  unfold State.available
  rw [h.stays n hn]
  simp only [h.chanIdle]

/-- The entry a recall is issued for waits for it: it shows RECALL, and that holds it back. -/
theorem State.RecalledFor.decideEntry_self {s t : State} {older : List WindowEntry} {e : WindowEntry} {ns : List Node}
    (h : s.RecalledFor t e.inst ns) (helig : s.Eligible older e.inst) :
    t.decideEntry older { e with reason := .recall, recallSet := e.recallSet ++ ns } = .hold .recall := by
  have hopen : ∀ n ∈ ns, t.available n = false := fun n hn => by
    obtain ⟨-, d, hd⟩ := h.opening n hn
    unfold State.available
    rw [hd]
  have hb := helig.barrier
  rw [State.barrierUnsatisfied, ← h.channelInsts] at hb
  have hwait : t.unavailable e.inst ≠ [] := by
    obtain ⟨n, hn⟩ := List.exists_mem_of_ne_nil _ h.nonempty
    exact List.ne_nil_of_mem ((t.mem_unavailable e.inst n).2 ⟨(h.opening n hn).1, hopen n hn⟩)
  refine (State.decideEntry_unavailable (e := { e with reason := .recall, recallSet := e.recallSet ++ ns })
    (h.paused.trans helig.paused) hb helig.order hwait).trans ?_
  rw [if_pos]
  · intro n hn
    obtain ⟨hin, hno⟩ := (t.mem_unavailable e.inst n).1 hn
    have hmem : n ∈ ns := by
      by_contra hnot
      rw [h.available hnot, (s.unavailable_eq_nil e.inst).1 helig.available n hin] at hno
      cases hno
    exact (t.recalledOpening_iff _ n).2 ⟨(h.opening n hmem).2, List.mem_append_right _ hmem⟩

section OtherNodes
/-! An instance that uses none of the nodes recalled. -/

variable {s t : State} {i j : Instance} {ns : List Node} (h : s.RecalledFor t i ns)
  (hj : ∀ n ∈ j.nodes.map Prod.fst, n ∉ ns)
include h hj

theorem State.RecalledFor.unavailable : t.unavailable j = s.unavailable j :=
  List.filter_congr fun n hn => by rw [h.available (hj n hn)]

theorem State.RecalledFor.choose : t.choose j = s.choose j := by
  have hcand : t.candidates = s.candidates :=
    List.filter_congr fun c _ => by rw [h.chanIdle, State.chanEnabled, State.chanEnabled, h.run]
  have hreuse : t.reuse j = s.reuse j := funext fun c =>
    congrArg List.length (List.filter_congr fun p hp => by rw [h.stays p.1 (hj p.1 (List.mem_map_of_mem hp))])
  unfold State.choose
  rw [hcand, hreuse]

theorem State.RecalledFor.recallOwners (hwf : s.relays.nodes.wf = true) (c : Chan) :
    t.recallOwners j c = s.recallOwners j c := by
  refine chans_eq_of_mem_iff (t.pairwise_recallOwners j c) (s.pairwise_recallOwners j c) fun d => ?_
  rw [State.mem_recallOwners h.wf, State.mem_recallOwners hwf]
  refine and_congr_right fun _ => exists_congr fun n => and_congr_right fun hn => ?_
  rw [h.stays n (hj n hn)]

/-- What holds it back from the choice of a channel on still does: the release queue had a free slot, and has fewer. -/
theorem State.RecalledFor.decideChannel_hold (hwf : s.relays.nodes.wf = true) {why : Blocked}
    (hd : s.decideChannel j = .hold why) : t.decideChannel j = .hold why := by
  have hroom := h.room
  have hqueue := h.queue
  cases hc : s.choose j with
  | none =>
    rw [← hd, State.decideChannel_none hc, State.decideChannel_none ((h.choose hj).trans hc)]
  | some c =>
    by_cases ho : s.recallOwners j c = []
    · rw [State.decideChannel_no_owner hc ho, if_neg fun hb => by omega] at hd
      cases hd
    · rw [State.decideChannel_owners hc ho] at hd
      rw [State.decideChannel_owners ((h.choose hj).trans hc) (by rwa [h.recallOwners hj hwf]), h.recallOwners hj hwf]
      split at hd
      next => cases hd
      next hfull => rw [if_neg (by omega), hd]

end OtherNodes

/-- What holds back an entry that uses none of the nodes recalled still does. -/
theorem State.RecalledFor.decideEntry_hold {s t : State} {i : Instance} {ns : List Node} (h : s.RecalledFor t i ns)
    (hwf : s.relays.nodes.wf = true) {older : List WindowEntry} {e : WindowEntry} {why : Blocked}
    (he : ∀ n ∈ e.inst.nodes.map Prod.fst, n ∉ ns) (hd : s.decideEntry older e = .hold why) :
    t.decideEntry older e = .hold why := by
  have hbarrier : t.barrierUnsatisfied older e.inst = s.barrierUnsatisfied older e.inst := by
    unfold State.barrierUnsatisfied; rw [h.channelInsts]
  have hrec : (s.unavailable e.inst).all (t.recalledOpening e) = (s.unavailable e.inst).all (s.recalledOpening e) := by
    rw [Bool.eq_iff_iff, List.all_eq_true, List.all_eq_true]
    refine forall₂_congr fun n hn => ?_
    rw [State.recalledOpening, State.recalledOpening, h.stays n (he n ((s.mem_unavailable e.inst n).1 hn).1)]
  unfold State.decideEntry at hd ⊢
  rw [h.paused, hbarrier, h.unavailable he, hrec]
  split_ifs at hd ⊢
  on_goal 6 => exact h.decideChannel_hold he hwf hd
  all_goals exact hd

end Sys2Proof.Machine
end

section
/-! SUPPORT. The walk answers every entry (R61): where it takes none out of the window, each shows what holds it back in
the state the walk leaves. -/

namespace Sys2Proof.Machine

/-- The identities in the window, oldest first. -/
def State.windowKeys (s : State) : List (BankId × Nat × Site) := s.disp.window.map fun e => e.inst.key

theorem State.windowKeys_eq (s : State) : s.windowKeys = (s.disp.window.map WindowEntry.inst).map Instance.key := by
  rw [List.map_map]; rfl

/-- The entry shows what holds it back in an examination made now (R58, R61). -/
def State.answered (s : State) (e : WindowEntry) : Prop :=
  s.decideEntry (s.olderThan e.inst.key) e = .hold e.reason

/-! ## Entries by their identity -/

theorem State.entry_unique {s : State} (hnd : s.windowKeys.Nodup) {d e : WindowEntry} (hd : d ∈ s.disp.window)
    (he : e ∈ s.disp.window) (h : d.inst.key = e.inst.key) : d = e :=
  List.inj_on_of_nodup_map hnd hd he h

theorem State.entryOf_of_mem {s : State} (hnd : s.windowKeys.Nodup) {e : WindowEntry} (he : e ∈ s.disp.window) :
    s.entryOf e.inst.key = some e := by
  cases hx : s.entryOf e.inst.key with
  | none => exact absurd (decide_eq_true rfl) (List.find?_eq_none.1 hx e he)
  | some x => rw [State.entry_unique hnd (State.entryOf_some hx).1 he (State.entryOf_some hx).2]

/-- The entries before an identity in the window are the older ones. -/
theorem State.mem_olderThan {s : State} (hnd : s.windowKeys.Nodup) {pre post : List (BankId × Nat × Site)}
    {k : BankId × Nat × Site} (hw : s.windowKeys = pre ++ k :: post) {e : WindowEntry} (he : e ∈ s.disp.window)
    (hpre : e.inst.key ∈ pre) : e ∈ s.olderThan k := by
  have hkeys : (s.olderThan k).map (fun e => e.inst.key) = pre := by
    have htake : (s.olderThan k).map (fun e => e.inst.key) = s.windowKeys.takeWhile fun x => decide (x ≠ k) := by
      unfold State.olderThan State.windowKeys
      rw [List.takeWhile_map]
      rfl
    rw [hw] at hnd
    rw [htake, hw, List.takeWhile_append_of_pos fun x hx => ?_]
    · simp
    · have := (List.nodup_append.1 hnd).2.2 x hx k (List.mem_cons_self ..)
      simpa using this
  rw [← hkeys] at hpre
  obtain ⟨o, ho, hoe⟩ := List.mem_map.1 hpre
  rw [← State.entry_unique hnd ((List.takeWhile_sublist _).mem ho) he hoe]
  exact ho

/-! ## A turn that takes no entry out of the window -/

/-- Where the entries of one identity are marked and show what holds them back, and older entries are still held back by
what they show, all of these are answered. -/
theorem State.answers_of_marked {s t : State} {k : BankId × Nat × Site} {pre : List (BankId × Nat × Site)}
    {why : Blocked} {ns : List Node} (hw : t.disp.window = (s.markEntry k why ns).disp.window)
    (hself : ∀ x ∈ s.disp.window, x.inst.key = k →
      t.decideEntry (s.olderThan k) { x with reason := why, recallSet := x.recallSet ++ ns } = .hold why)
    (hother : ∀ x ∈ s.disp.window, x.inst.key ∈ pre →
      t.decideEntry (s.olderThan x.inst.key) x = .hold x.reason) :
    t.windowKeys = s.windowKeys ∧ ∀ e ∈ t.disp.window, e.inst.key ∈ pre ++ [k] → t.answered e := by
  have hinsts : t.disp.window.map WindowEntry.inst = s.disp.window.map WindowEntry.inst := by
    rw [hw, State.markEntry_insts]
  refine ⟨by rw [State.windowKeys_eq, State.windowKeys_eq, hinsts], fun e he hmem => ?_⟩
  rw [hw, State.markEntry_window] at he
  obtain ⟨x, hx, rfl⟩ := List.mem_map.1 he
  unfold State.answered
  rw [State.decideEntry_olderThan hinsts]
  by_cases hk : x.inst.key = k
  · rw [if_pos hk]
    exact hk ▸ hself x hx hk
  · rw [if_neg hk] at hmem ⊢
    refine hother x hx ((List.mem_append.1 hmem).resolve_right fun hc => hk ?_)
    simpa using hc

/-- A turn that takes no entry out of the window answers its own entry, and leaves the older ones answered: a recall
moves no node of an older entry (R66). -/
theorem State.examineEntry_answers {s : State} (hwf : s.relays.nodes.wf = true) (hp : s.countersPassive)
    (hnd : s.windowKeys.Nodup) {pre post : List (BankId × Nat × Site)} {k : BankId × Nat × Site}
    (hw : s.windowKeys = pre ++ k :: post)
    (hkept : s.disp.window.length ≤ (s.examineEntry k).disp.window.length)
    (hs : ∀ e ∈ s.disp.window, e.inst.key ∈ pre → s.answered e) :
    (s.examineEntry k).windowKeys = s.windowKeys ∧
      ∀ e ∈ (s.examineEntry k).disp.window, e.inst.key ∈ pre ++ [k] → (s.examineEntry k).answered e := by
  have hk : k ∈ s.windowKeys := by rw [hw]; simp
  obtain ⟨e, he, rfl⟩ := List.mem_map.1 hk
  have hentry := State.entryOf_of_mem hnd he
  rcases hd : s.decideEntry (s.olderThan e.inst.key) e with why | owners | c
  · rw [State.examineEntry_hold hentry hd]
    refine State.answers_of_marked rfl (fun x hx hxk => ?_) hs
    obtain rfl := State.entry_unique hnd hx he hxk
    rw [List.append_nil]
    exact hd
  · rw [State.examineEntry_recall hentry hd]
    obtain ⟨ns, hrec, hwin⟩ := State.recalledFor_issueRecall hwf hp hd
    have helig : s.Eligible (s.olderThan e.inst.key) e.inst :=
      State.eligible_of_decideEntry fun why hw => by rw [hd] at hw; cases hw
    refine State.answers_of_marked hwin (fun x hx hxk => ?_) fun x hx hpre => ?_
    · obtain rfl := State.entry_unique hnd hx he hxk
      exact hrec.decideEntry_self helig
    · refine hrec.decideEntry_hold hwf (fun n hn hrecalled => ?_) (hs x hx hpre)
      refine absurd ((orderBlocked_iff _ _).2 ?_) (Bool.eq_false_iff.1 helig.order)
      exact ⟨x, State.mem_olderThan hnd hw hx hpre, n, (hrec.opening n hrecalled).1, hn⟩
  · rw [State.examineEntry_dispatch hentry hd, (State.dispatchTo_passive hp e c).2] at hkept
    refine absurd hkept (Nat.not_le.2 ?_)
    rw [List.length_filter_lt_length_iff_exists]
    exact ⟨e, he, by simp⟩

/-! ## The walk and the examination -/

/-- Calm turns let nothing into the window. -/
theorem foldl_examineEntry_length_le (l : List (BankId × Nat × Site)) {s : State} (h : s.turnsCalm) :
    (l.foldl State.examineEntry s).disp.window.length ≤ s.disp.window.length := by
  induction l generalizing s with
  | nil => exact le_refl _
  | cons k l ih =>
    obtain ⟨hcalm, hle, -⟩ := State.examineEntry_calm h k
    exact (ih (hcalm.turnsCalm h)).trans hle

/-- The turns of the rest of a walk, where they take no entry out of the window. -/
theorem foldl_examineEntry_answers (post : List (BankId × Nat × Site)) (pre : List (BankId × Nat × Site)) {s : State}
    (hwf : s.relays.nodes.wf = true) (hp : s.countersPassive) (hnd : s.windowKeys.Nodup)
    (hw : s.windowKeys = pre ++ post)
    (hkept : s.disp.window.length ≤ (post.foldl State.examineEntry s).disp.window.length)
    (hs : ∀ e ∈ s.disp.window, e.inst.key ∈ pre → s.answered e) :
    ∀ e ∈ (post.foldl State.examineEntry s).disp.window, (post.foldl State.examineEntry s).answered e := by
  induction post generalizing pre s with
  | nil =>
    intro e he
    rw [List.append_nil] at hw
    exact hs e he (hw ▸ List.mem_map_of_mem he)
  | cons k post ih =>
    obtain ⟨hcalm, hle, -⟩ := State.examineEntry_calm (Or.inl hp) k
    have hpt := hcalm.passive hp
    obtain ⟨hkeys, hanswers⟩ := State.examineEntry_answers hwf hp hnd hw
      (hkept.trans (foldl_examineEntry_length_le post (Or.inl hpt))) hs
    exact ih (pre ++ [k]) (hcalm.wf hwf) hpt (hkeys ▸ hnd) (by rw [hkeys, hw, List.append_assoc]; rfl)
      (hle.trans hkept) hanswers

/-- A walk that takes no entry out of the window answers every entry. -/
theorem State.walk_answers {s : State} (hwf : s.relays.nodes.wf = true) (hp : s.countersPassive)
    (hnd : s.windowKeys.Nodup) (hkept : s.disp.window.length ≤ s.walk.disp.window.length) :
    ∀ e ∈ s.walk.disp.window, s.walk.answered e :=
  foldl_examineEntry_answers s.windowKeys [] (s := s.withExamDue false) hwf hp hnd rfl hkept
    fun _ _ h => absurd h List.not_mem_nil

/-- A calm walk leaves a part of the window, in its order. -/
theorem State.walk_windowKeys {s : State} (h : s.turnsCalm) : s.walk.windowKeys.Sublist s.windowKeys := by
  refine State.walk_rel (R := fun s t => t.windowKeys.Sublist s.windowKeys) (fun _ => List.Sublist.refl _)
    (fun h g => g.trans h) (fun _ => List.Sublist.refl _) (fun s k hs => ?_) h
  rcases State.examineEntry_moves hs k with ⟨hw, -⟩ | ⟨e, -, c, -, hw, -⟩
  · rw [State.windowKeys_eq, State.windowKeys_eq, hw]
  · exact (hw ▸ List.filter_sublist).map _

/-- An examination ends with every entry answered. -/
theorem Examined.answers {s t : State} (h : Examined s t) (hwf : s.relays.nodes.wf = true) (hp : s.countersPassive)
    (hnd : s.windowKeys.Nodup) : ∀ e ∈ t.disp.window, t.answered e := by
  induction h with
  | last s hlen => exact State.walk_answers hwf hp hnd hlen.ge
  | again s t _ _ ih =>
    have hcalm := State.walk_calm (s := s) (Or.inl hp)
    exact ih (hcalm.wf hwf) (hcalm.passive hp) (hnd.sublist (State.walk_windowKeys (Or.inl hp)))

end Sys2Proof.Machine
end

section
/-! The dispatch window's examination: O26. -/

namespace Sys2Proof.Machine

/-- The close of an event, where no counter acts on a wrap or nothing can be dispatched: the examination where one is
due, the completion test alone where none is (R60, R151). -/
theorem State.closeEvent_by_examDue {s : State} (hask : s.run.haltAsked = false)
    (h : s.countersPassive ∨ s.dispatchQuiet) (hwf : s.relays.nodes.wf = true) :
    (s.disp.examDue = true → closedFrom (s.withExamDue false) s.closeEvent) ∧
      (s.disp.examDue = false → completionTested s s.closeEvent) := by
  constructor
  · intro hdue
    have hcalm : (s.withExamDue false).run.state = .active → (s.withExamDue false).walksCalm := fun hact =>
      h.elim (fun hp => State.walksCalm_of_passive (s := s.withExamDue false) hp)
        fun hq => State.walksCalm_of_dispatchQuiet (s := s.withExamDue false) hq hact
    have hclosed := closedFrom_closeEvent hcalm hask rfl (Or.inl hwf)
    rwa [State.withExamDue_withExamDue, State.withExamDue_self hdue] at hclosed
  · intro hdue
    rw [State.closeEvent_of_quiet hask (Or.inl hdue), State.withExamDue_self hdue]
    exact completionTested_testDone hwf

/-- Settles O26: the checks one by one; what a dispatch has passed; the close of an event; and the last walk of an
examination, which answers every entry. -/
theorem entryDecidedInOrder : Obligations.EntryDecidedInOrder := by
  unfold Obligations.EntryDecidedInOrder
  refine ⟨?_, ?_, fun s => ⟨rfl, ?_, State.closeEvent_by_examDue⟩, fun s t hwf hp hnd hx => hx.answers hwf hp hnd⟩
  · intro s older e hwf nodes concerns barrier order available recalled owner release got
    have hbarrier : _ ↔ barrier := s.barrier_iff older e.inst
    have horder : _ ↔ order := orderBlocked_iff older e.inst
    have hclear : ¬ barrier → (s.barrierUnsatisfied older e.inst || behindBarrier older e.inst) = false := fun h =>
      Bool.eq_false_iff.2 fun hc => h (hbarrier.1 hc)
    have hfirst : ¬ order → orderBlocked older e.inst = false := fun h => Bool.eq_false_iff.2 fun hc => h (horder.1 hc)
    have havail : ∀ n, s.available n = true ↔ available n := s.available_iff
    refine ⟨fun h => State.decideEntry_paused h older e, fun h hb => State.decideEntry_barrier h (hbarrier.2 hb),
      fun h hb ho => State.decideEntry_order h (hclear hb) (horder.2 ho), fun h hb ho => ⟨?_, ?_⟩,
      fun hentry hturn => ⟨fun why hg => ?_, fun owners hg => State.examineEntry_recall hentry (hturn.trans hg),
        fun c hg => State.examineEntry_dispatch hentry (hturn.trans hg)⟩⟩
    · rintro ⟨n, hn, hno⟩
      have hne : s.unavailable e.inst ≠ [] := fun hnil =>
        hno ((havail n).1 ((s.unavailable_eq_nil e.inst).1 hnil n hn))
      have hgot := State.decideEntry_unavailable h (hclear hb) (hfirst ho) hne
      have hrec : _ ↔ recalled := (s.recalled_iff e).trans (forall₂_congr fun n _ => by rw [havail])
      exact ⟨fun hr => by rw [if_pos (hrec.2 hr)] at hgot; exact hgot,
        fun hr => by rw [if_neg fun hc => hr (hrec.1 hc)] at hgot; exact hgot⟩
    · intro hall
      have helig : s.Eligible older e.inst :=
        ⟨h, hclear hb, hfirst ho, (s.unavailable_eq_nil e.inst).2 fun n hn => (havail n).2 (hall n hn)⟩
      refine ⟨fun hbusy => ?_, fun c hc => State.decideEntry_chosen hwf helig hc⟩
      have hnone : s.candidates = [] := List.eq_nil_iff_forall_not_mem.2 fun d hd =>
        hbusy d ((s.mem_candidates d).1 hd).1 ((s.mem_candidates d).1 hd).2
      exact (State.decideEntry_eligible helig).trans (State.decideChannel_none (State.choose_eq_none hnone _))
    · rw [← State.markEntry_nil]
      exact State.examineEntry_hold hentry (hturn.trans hg)
  · intro s older e c hwf hd
    obtain ⟨helig, hcand, hnodes, hroom⟩ := State.decideEntry_dispatch hwf hd
    obtain ⟨henabled, hidle⟩ := (s.mem_candidates c).1 hcand
    have hbar := Bool.eq_false_iff.1 helig.barrier
    rw [ne_eq, State.barrier_iff] at hbar
    refine ⟨helig.paused, henabled, hidle, fun o ho n hn => ?_, hnodes, hroom, fun hb d x hx hcon => ?_⟩
    · exact absurd ((orderBlocked_iff _ _).2 ⟨o, ho, n, hn.1, hn.2⟩) (Bool.eq_false_iff.1 helig.order)
    · exact hbar (Or.inl ⟨hb, Or.inr ⟨d, x, hx, hcon⟩⟩)
  · intro k hk
    unfold State.examineEntry
    rw [hk]

end Sys2Proof.Machine
end

section
/-! PAUSE_RUN and RESUME_RUN (R76, R77): O30. -/

namespace Sys2Proof.Machine

/-! ## With dispatch not paused an examination leaves no entry showing PAUSED -/

theorem State.decideEntry_ne_paused {s : State} (h : s.disp.paused = false) (older : List WindowEntry)
    (e : WindowEntry) : s.decideEntry older e ≠ .hold .paused := by
  unfold State.decideEntry State.decideChannel
  rw [if_neg (by simp [h])]
  (repeat' split) <;> simp

/-- With dispatch not paused an entry's turn leaves it with another reason, and gives no entry PAUSED. -/
theorem State.examineEntry_reason {s : State} (hp : s.countersPassive) (h : s.disp.paused = false)
    (k : BankId × Nat × Site) {e : WindowEntry} (he : e ∈ (s.examineEntry k).disp.window) :
    e.reason ≠ .paused ∨ (e ∈ s.disp.window ∧ e.inst.key ≠ k) := by
  have hmarked : ∀ (why : Blocked) (ns : List Node), why ≠ .paused → e ∈ (s.markEntry k why ns).disp.window →
      e.reason ≠ .paused ∨ (e ∈ s.disp.window ∧ e.inst.key ≠ k) := by
    intro why ns hwhy he
    rw [State.markEntry_window] at he
    obtain ⟨x, hx, rfl⟩ := List.mem_map.1 he
    by_cases hk : x.inst.key = k
    · rw [if_pos hk]; exact Or.inl hwhy
    · rw [if_neg hk]; exact Or.inr ⟨hx, hk⟩
  rcases s.examineEntry_cases k with
    ⟨hno, hx⟩ | ⟨d, hd, ⟨why, hdec, hx⟩ | ⟨owners, -, hx⟩ | ⟨c, -, hx⟩⟩ <;> rw [hx] at he
  · exact Or.inr ⟨he, by simpa using List.find?_eq_none.1 hno e he⟩
  · exact hmarked why [] (fun hw => State.decideEntry_ne_paused h _ d (hw ▸ hdec)) he
  · obtain ⟨-, rfl⟩ := State.entryOf_some hd
    rw [(State.issueRecall_passive hp d owners).2] at he
    exact hmarked .recall _ (by decide) he
  · obtain ⟨-, rfl⟩ := State.entryOf_some hd
    rw [(State.dispatchTo_passive hp d c).2] at he
    exact Or.inr (by simpa using he)

theorem State.walk_reason {s : State} (hp : s.countersPassive) (h : s.disp.paused = false) :
    ∀ e ∈ s.walk.disp.window, e.reason ≠ .paused := by
  have hfold : ∀ (l : List (BankId × Nat × Site)) (t : State), t.countersPassive → t.disp.paused = false →
      (∀ e ∈ t.disp.window, e.reason ≠ .paused ∨ e.inst.key ∈ l) →
      ∀ e ∈ (l.foldl State.examineEntry t).disp.window, e.reason ≠ .paused := by
    intro l
    induction l with
    | nil => exact fun t _ _ hall e he => (hall e he).resolve_right List.not_mem_nil
    | cons k l ih =>
      intro t hp h hall
      obtain ⟨hcalm, -⟩ := State.examineEntry_calm (Or.inl hp) k
      refine ih _ (hcalm.passive hp) (hcalm.paused.trans h) fun e he => ?_
      rcases State.examineEntry_reason hp h k he with hr | ⟨hmem, hk⟩
      · exact Or.inl hr
      · exact (hall e hmem).imp_right fun hin => (List.mem_cons.1 hin).resolve_left hk
  exact hfold s.windowKeys (s.withExamDue false) hp h fun e he => Or.inr (List.mem_map_of_mem he)

theorem Examined.reason {s t : State} (hx : Examined s t) (hp : s.countersPassive) (h : s.disp.paused = false) :
    ∀ e ∈ t.disp.window, e.reason ≠ .paused := by
  induction hx with
  | last s _ => exact State.walk_reason hp h
  | again s t _ _ ih =>
    have hcalm := State.walk_calm (s := s) (Or.inl hp)
    exact ih (hcalm.passive hp) (hcalm.paused.trans h)

/-! ## The resumption -/

/-- The state with the paused flag clear. -/
def State.unpaused (s : State) : State := s.withDisp { s.disp with paused := false }

/-- A resumption is the close of an event that calls for an examination, with dispatch no longer paused (R77). -/
theorem State.resume_eq (s : State) : s.resume = (s.unpaused.withExamDue true).closeEvent := rfl

/-- With the counters frozen and no halt asked for, the resumption touches the window, the relays, the channels and the
notices alone, but for the run it may complete, and no entry is left showing PAUSED. -/
theorem State.resume_still {s : State} (hf : s.countersStill) (hask : s.run.haltAsked = false)
    (hact : s.run.state = .active) :
    s.Still s.resume ∧ s.resume.plan = s.plan ∧ s.resume.sites = s.sites ∧
      s.resume.disp.fetch = s.disp.fetch ∧ ∀ e ∈ s.resume.disp.window, e.reason ≠ .paused := by
  have hp : s.unpaused.countersPassive := Or.inl hf
  obtain ⟨u, hx, hcalm, he⟩ := State.closeEvent_examined (State.walksCalm_of_passive hp) hask hact
  obtain ⟨hcounters, hresults, hasked⟩ := State.still_closeEvent (s := s.unpaused.withExamDue true) hf hask
  refine ⟨⟨hcounters, hresults, hasked⟩, ?_⟩
  rw [State.resume_eq, he, State.testDone_plan, State.testDone_sites, State.testDone_disp]
  exact ⟨hcalm.plan, hcalm.sites, hcalm.fetch, hx.reason hp rfl⟩

/-! ## The requests -/

/-- A pause touches no part of the link, so its reply goes out at once (R168). -/
theorem exec_pauseRun_accepted {s : State} (tag : Byte) (hopen : s.linkOpen) (hact : s.run.state = .active)
    (h : s.disp.paused = false) :
    exec (.pauseRun tag []) s = .next (s.begin.pause.replying 0xB1 tag .ok []) := by
  have hh : handle .pauseRun [] s.begin = accept s.begin.pause [] := by
    simp [handle, servePauseRun, noOperand, State.active, hact, h]
  obtain ⟨-, hwait, hsend, hdue, -⟩ := id hopen
  refine (exec_served .pauseRun tag [] (by simp) hopen ?_ ?_ ?_).trans ?_ <;> rw [hh]
  · exact hsend
  · exact hwait
  · exact hdue
  · rfl

/-- PAUSE_RUN by its checks, in order (R76). -/
theorem exec_pauseRun {s : State} (tag : Byte) {p : List Byte} (hp : p.length ≤ 1024) (hopen : s.linkOpen) :
    exec (.pauseRun tag p) s = .next
      (if p ≠ [] then s.begin.replying 0xB1 tag .length []
      else if s.run.state ≠ .active then s.begin.replying 0xB1 tag .state []
      else if s.disp.paused = true then s.begin.replying 0xB1 tag .ok []
      else s.begin.pause.replying 0xB1 tag .ok []) := by
  by_cases hne : p ≠ []
  · rw [if_pos hne]
    exact exec_refused (r := .pauseRun) hp hopen (by simp [handle, servePauseRun, noOperand_ne hne])
  obtain rfl := not_not.1 hne
  by_cases hna : s.run.state ≠ .active
  · rw [if_neg hne, if_pos hna]
    exact exec_refused (r := .pauseRun) hp hopen (by simp [handle, servePauseRun, noOperand, State.active, hna])
  have hact := not_not.1 hna
  by_cases hpaused : s.disp.paused = true
  · rw [if_neg hne, if_neg hna, if_pos hpaused]
    exact exec_unchanged (r := .pauseRun) hp hopen
      (by simp [handle, servePauseRun, noOperand, State.active, hact, hpaused])
  · rw [if_neg hne, if_neg hna, if_neg hpaused]
    exact exec_pauseRun_accepted tag hopen hact (Bool.eq_false_iff.2 hpaused)

theorem resumeRun_accepts {s : State} (hact : s.run.state = .active) (h : s.disp.paused = true) :
    handle .resumeRun [] s.begin = accept s.begin.resume [] := by
  simp [handle, serveResumeRun, noOperand, State.active, hact, h]

/-- Settles O30: a pause marks the window; a resumption is the close of an event that calls for an examination, which
leaves no entry showing PAUSED. -/
theorem pauseAndResume : Obligations.PauseAndResume := by
  unfold Obligations.PauseAndResume
  intro tag p s hp hopen
  refine ⟨exec_pauseRun tag hp hopen, fun hne => ?_, fun hnil hna => ?_, fun hnil hact hrunning => ?_,
    fun hnil hact hpaused hclear hpass hwf => ?_, fun hnil hact hpaused hclear hstill => ?_⟩
  · exact exec_refused (r := .resumeRun) hp hopen (by simp [handle, serveResumeRun, noOperand_ne hne])
  · subst hnil
    exact exec_refused (r := .resumeRun) hp hopen (by simp [handle, serveResumeRun, noOperand, State.active, hna])
  · subst hnil
    exact exec_unchanged (r := .resumeRun) hp hopen
      (by simp [handle, serveResumeRun, noOperand, State.active, hact, hrunning])
  · subst hnil
    obtain ⟨t, hexec, ht, hpend, hreply⟩ := exec_accepted (tag := tag) hp hopen (resumeRun_accepts hact hpaused)
    refine ⟨s.begin.resume, t, ?_, hexec, ht, State.pendingKept_of_eq hpend, hreply⟩
    exact closedFrom_closeEvent (s := s.begin.unpaused) (fun _ => State.walksCalm_of_passive hpass) hclear.2 hclear.1
      (Or.inl hwf)
  · subst hnil
    obtain ⟨t, hexec, ht, -, hreply⟩ := exec_accepted (tag := tag) hp hopen (resumeRun_accepts hact hpaused)
    obtain ⟨hkept, hplan, hsites, hfetch, hreason⟩ := State.resume_still (s := s.begin) hstill hclear.2 hact
    refine ⟨t, hexec, hreply, ?_⟩
    rw [ht]
    refine ⟨?_, hplan, hsites, hkept.results, hkept.counters, hfetch, fun e he => ⟨hreason e he, ?_⟩⟩
    · exact State.closeEvent_disp_paused _
    · exact (State.evolves_closeEvent (s.begin.unpaused.withExamDue true)).window e he

end Sys2Proof.Machine
end

section
/-! SUPPORT. The sample event of a running channel (R81), by what the sample is to it. -/

namespace Sys2Proof.Machine

/-! ## What a sample is -/

theorem Channel.sampleKind_settling {x : Channel} {k : Running} (h : x.running = some k) (hp : k.phase = .settling)
    (v : Int) : x.sampleKind v = settlingKind k.inst.step x.monitor v := by
  unfold Channel.sampleKind; simp only [h, hp]

theorem Channel.sampleKind_acquiring {x : Channel} {k : Running} (h : x.running = some k) (hp : k.phase = .acquiring)
    (v : Int) : x.sampleKind v = acquiringKind k.inst.step x.monitor x.reading v := by
  unfold Channel.sampleKind; simp only [h, hp]

theorem Channel.sampleKind_dwelling {x : Channel} {k : Running} {n : Nat} (h : x.running = some k)
    (hp : k.phase = .dwelling n) (v : Int) :
    x.sampleKind v = if n + 1 = k.inst.step.dwell then .dwellDone else .dwell := by
  unfold Channel.sampleKind; simp only [h, hp]

/-- A sample is discarded in CONNECTING, POSTING and RELEASING (R81). -/
theorem Channel.sampleKind_discard {x : Channel} {k : Running} (h : x.running = some k)
    (hp : (∃ q, k.phase = .connecting q) ∨ (∃ r, k.phase = .posting r) ∨ k.phase = .releasing) (v : Int) :
    x.sampleKind v = .discard := by
  unfold Channel.sampleKind
  rcases hp with ⟨q, hp⟩ | ⟨r, hp⟩ | hp <;> simp only [h, hp]

/-- An in-band sample in ACQUIRING (R109, R112). -/
theorem acquiringKind_inBand {r : StepRecord} {m : Monitor} {x v : Int} (hr : m.reference = some x)
    (hb : (v - x).natAbs ≤ r.band) (u : ReadingUnit) :
    acquiringKind r m u v = if u.count + 1 = 2 ^ r.acquireExp then .complete else .acquire := by
  have hin : inBand r.band x v = true := decide_eq_true hb
  unfold acquiringKind
  rw [hr, Option.getD_some, if_pos hin]
  rfl

/-- A sample out of band in ACQUIRING is drift (R110, R111). -/
theorem acquiringKind_drift {r : StepRecord} {m : Monitor} {x v : Int} (hr : m.reference = some x)
    (hb : r.band < (v - x).natAbs) (u : ReadingUnit) :
    acquiringKind r m u v = if m.resettles < r.resettleLimit then .drift else .exhaust := by
  have hout : ¬ inBand r.band x v = true := fun h => absurd (of_decide_eq_true h) (Nat.not_le.2 hb)
  unfold acquiringKind
  rw [hr, Option.getD_some, if_neg hout]

theorem ReadingUnit.take_eq (u : ReadingUnit) (v : Int) :
    u.take v =
      { sum := u.sum + v, count := u.count + 1
        overrange := u.overrange || decide (v = -524288 ∨ v = 524287) } := by
  have hc : isClampCode v = decide (v = -524288 ∨ v = 524287) := (Bool.decide_or _ _).symm
  unfold ReadingUnit.take
  rw [hc]

/-! ## The channels of a state -/

theorem Four.set_set {α : Type} (f : Four α) (c : Chan) (x y : α) : (f.set c x).set c y = f.set c y := by
  fin_cases c <;> rfl

theorem State.withChan_withChan (s : State) (c : Chan) (x y : Channel) :
    (s.withChan c x).withChan c y = s.withChan c y := by
  unfold State.withChan
  rw [Four.set_set]

theorem State.withChan_chan_self (s : State) (c : Chan) (x : Channel) : (s.withChan c x).chan c = x := by
  rw [State.withChan_chan, if_pos rfl]

theorem State.withChan_self (s : State) (c : Chan) : s.withChan c (s.chan c) = s := by
  have hset : s.chans.set c (s.chans.get c) = s.chans := by fin_cases c <;> rfl
  unfold State.withChan State.chan
  rw [hset]

/-! ## The event -/

/-- A running channel keeps the run from completing (R151). -/
theorem State.testDone_of_running {s : State} {c : Chan} (h : (s.chan c).running ≠ none) : s.testDone = s := by
  refine State.testDone_of_not ?_
  rw [Bool.eq_false_iff, Ne, State.completed_iff]
  exact fun hd => h (hd.2.2.2 c)

/-- With nothing asked for or due and a channel running, the close of an event changes nothing. -/
theorem State.closeEvent_of_running {s : State} {c : Chan} (ht : s.transientsClear) (h : (s.chan c).running ≠ none) :
    s.closeEvent = s := by
  rw [State.closeEvent_of_quiet ht.2 (Or.inl ht.1), State.withExamDue_self ht.1, State.testDone_of_running h]

theorem exec_channelSample (c : Chan) (v : SampleCode) (s : State) :
    exec (.channelSample c v) s = .next (s.begin.sample c v.toInt).transmit := by rfl

/-- The whole event of a sample of a known kind. -/
theorem exec_channelSample_kind {c : Chan} {v : SampleCode} {s : State} {k : Running} {w : SampleKind}
    (hk : (s.chan c).running = some k) (hw : (s.chan c).sampleKind v.toInt = w) :
    exec (.channelSample c v) s = .next (s.begin.sampleBy c k v.toInt w).closeEvent.transmit := by
  have hk' : (s.begin.chan c).running = some k := hk
  have hw' : (s.begin.chan c).sampleKind v.toInt = w := hw
  rw [exec_channelSample]
  unfold State.sample
  simp only [hk', hw']

theorem exec_acquisitionComplete {c : Chan} {v : SampleCode} {s : State}
    (h : (s.chan c).sampleKind v.toInt = .complete) :
    exec (.acquisitionComplete c v) s = exec (.channelSample c v) s := by
  have hif : s.begin.sampleIf c v.toInt .complete = s.begin.sample c v.toInt := if_pos h
  exact congrArg (fun t : State => Host.Outcome.next t.transmit) hif

/-- A sample that leaves its channel running and calls for no examination: the close of its event changes nothing. -/
theorem exec_channelSample_stands {c : Chan} {v : SampleCode} {s : State} {k k' : Running} {w : SampleKind}
    {x : Channel} (hs : s.link.settled) (ht : s.transientsClear) (hk : (s.chan c).running = some k)
    (hw : (s.chan c).sampleKind v.toInt = w) (hx : s.begin.sampleBy c k v.toInt w = s.begin.withChan c x)
    (hr : x.running = some k') : exec (.channelSample c v) s = .next (s.begin.withChan c x) := by
  have hrun : ((s.begin.withChan c x).chan c).running ≠ none := by
    rw [State.withChan_chan_self, hr]; exact Option.some_ne_none k'
  rw [exec_channelSample_kind hk hw, hx, State.closeEvent_of_running (s := s.begin.withChan c x) ht hrun,
    State.transmit_settled (s := s.begin.withChan c x) hs]

/-- An occurrence that a running channel offers in its sample event, where no counter acts on a wrap: the close of the
event changes nothing. -/
theorem State.closeEvent_offered {s : State} {c : Chan} {x : Channel} {k : Running} (ht : s.transientsClear)
    (hp : s.countersPassive) (hr : x.running = some k) (o : Occurrence) :
    ((s.withChan c x).offer o).closeEvent = (s.withChan c x).offer o := by
  obtain ⟨hcalm, hdisp⟩ := State.offer_passive (s := s.withChan c x) hp o
  refine State.closeEvent_of_running (c := c) ⟨by rw [hdisp]; exact ht.1, by rw [hcalm.run]; exact ht.2⟩ ?_
  rw [State.offer_chan, State.withChan_chan_self, hr]
  exact Option.some_ne_none k

end Sys2Proof.Machine
end

section
/-! The samples that decide nothing, and the judgements that ask for a further attempt: O41, O46. -/

namespace Sys2Proof.Machine

/-- Settles O41: the kind of the sample by the channel's phase, and an event whose close changes nothing. -/
theorem sampleWithoutJudgement : Obligations.SampleWithoutJudgement := by
  unfold Obligations.SampleWithoutJudgement
  constructor
  · intro c v s hs ht
    refine ⟨fun hidle => ?_, fun k hk => ⟨fun hp => ?_, fun n hp hn => ?_⟩⟩
    · have hstay : s.begin.sample c v.toInt = s.begin := by
        unfold State.sample
        rw [show (s.begin.chan c).running = none from hidle]
      rw [exec_channelSample, hstay, State.transmit_settled (s := s.begin) hs]
    · have hself := State.withChan_self s.begin c
      rw [exec_channelSample_stands hs ht hk (Channel.sampleKind_discard hk hp v.toInt) hself.symm hk, hself]
    · have hw := (Channel.sampleKind_dwelling hk hp v.toInt).trans (if_neg hn)
      refine exec_channelSample_stands hs ht hk hw ?_ rfl
      have hk' : (s.begin.chan c).running = some k := hk
      simp only [State.sampleBy, hp, State.setPhase, hk']
      rfl
  · intro c v s k x hs ht hk hp hr m u r
    refine ⟨fun hb hc => ?_, fun hb hlim hpass => ?_⟩
    · have hw := (Channel.sampleKind_acquiring hk hp v.toInt).trans ((acquiringKind_inBand hr hb u).trans (if_neg hc))
      rw [← ReadingUnit.take_eq]
      exact exec_channelSample_stands hs ht hk hw rfl hk
    · have hw := (Channel.sampleKind_acquiring hk hp v.toInt).trans ((acquiringKind_drift hr hb u).trans (if_pos hlim))
      rw [exec_channelSample_kind hk hw]
      exact congrArg (fun t : State => Host.Outcome.next t.transmit)
        (State.closeEvent_offered (s := s.begin) (c := c) ht hpass (by rfl) (emitted .resettle 1 c k.inst))

theorem wantsRetry_iff (k : Running) (j : Judgement) :
    wantsRetry k j = true ↔ (j.outcome = .low ∨ j.outcome = .high) ∧ k.attempt ≤ k.inst.step.retries := by
  simp [wantsRetry]

/-- Settles O46: the sample completes the acquisition, and its judgement asks for a retry. -/
theorem judgementRetries : Obligations.JudgementRetries := by
  unfold Obligations.JudgementRetries
  intro c v s k x ht hpass hk hp hr r u hb hcount hout hleft i hi
  have hw : (s.chan c).sampleKind v.toInt = .complete :=
    (Channel.sampleKind_acquiring hk hp v.toInt).trans ((acquiringKind_inBand hr hb _).trans (if_pos hcount))
  have hretry : wantsRetry k (judgeReading r ((s.chan c).reading.take v.toInt)) = true := by
    rw [ReadingUnit.take_eq]
    exact (wantsRetry_iff k _).2 ⟨hout, hleft⟩
  have hi : exec i s = exec (.channelSample c v) s := by
    rcases hi with rfl | rfl
    · rfl
    · exact exec_acquisitionComplete hw
  have hby : s.begin.sampleBy c k v.toInt .complete = (s.begin.withChan c
      { s.chan c with
        running := some { k with attempt := k.attempt + 1, phase := .settling }
        monitor := .load r
        reading := .empty }).offer (emitted .retry 1 c k.inst) := by
    refine (if_pos hretry).trans ?_
    unfold State.retry State.withMonitor
    rw [State.withChan_chan_self, State.withChan_withChan]
    rfl
  rw [hi, exec_channelSample_kind hk hw, hby]
  exact congrArg (fun t : State => Host.Outcome.next t.transmit)
    (State.closeEvent_offered (s := s.begin) (c := c) ht hpass (by rfl) (emitted .retry 1 c k.inst))

end Sys2Proof.Machine
end

section
/-! SUPPORT. The record of a normal post (R93, steps 1 to 4): appended, counted, its bank's live count lowered and the
site of a failed CONTACT step retired, in the terms of the statements where no wrap retires a site. -/

namespace Sys2Proof.Machine

/-! ## What counting depends on and leaves -/

/-- What an occurrence does to Run Control depends on the counters and Run Control alone. -/
theorem State.offer_run_congr {s t : State} (hc : s.counters = t.counters) (hr : s.run = t.run) (o : Occurrence) :
    (s.offer o).run = (t.offer o).run := by
  simp only [State.offer_eq, State.countAll_eq, foldl_wrapEffects_run, State.wrapping, State.rewritten, hc, hr,
    State.withCounters_run]

/-- Where no wrap retires a site an occurrence leaves the plan and the dispatcher. -/
theorem State.offer_blocks_of_noRetireWrap {s : State} (h : s.noRetireWrap) (o : Occurrence) :
    (s.offer o).plan = s.plan ∧ (s.offer o).disp = s.disp := by
  rcases h with hf | hact
  · rw [State.offer_frozen hf]
    exact ⟨rfl, rfl⟩
  · have hks : ∀ k ∈ s.wrapping (Counter.onOccurrence s.counters.frozen o), k.action ≠ .retire := by
      intro k hk
      obtain ⟨i, rfl, -⟩ := (s.mem_wrapping _ k).1 hk
      exact hact i
    rw [State.offer_eq, State.countAll_eq]
    refine foldl_rel (R := fun s t : State => t.plan = s.plan ∧ t.disp = s.disp) (fun _ => ⟨rfl, rfl⟩)
      (fun h g => ⟨g.1.trans h.1, g.2.trans h.2⟩) _ _ (fun t k hk => ?_) (s.rewritten _)
    cases ha : k.action
    · rw [State.wrapEffects_none ha]; exact ⟨rfl, rfl⟩
    · rw [State.wrapEffects_freeze ha]; exact ⟨rfl, rfl⟩
    · exact absurd ha (hks k hk)
    · rw [State.wrapEffects_halt ha]; exact ⟨rfl, rfl⟩

theorem State.noRetireWrap_of_passive {s : State} (h : s.countersPassive) : s.noRetireWrap :=
  h.imp id fun hact i => by rw [hact i]; exact fun hc => by cases hc

/-! ## Live counts -/

theorem State.lowerLive_zero (s : State) (w : BankId) : s.lowerLive w 0 = s := by
  unfold State.lowerLive; exact if_pos rfl

/-- One bank's live count lowered by one (R13). -/
theorem liveLowered_one (s : State) (w : BankId) :
    liveLowered s (fun v => if w = v then 1 else 0) (s.lowerLive w 1) := by
  have h := liveLowered_lowerLive s fun v => if w = v then 1 else 0
  cases w
  · exact State.lowerLive_zero (s.lowerLive .a 1) .b ▸ h
  · exact State.lowerLive_zero s .a ▸ h

/-- What `liveLowered` says depends on the run's state and the plans, and holds with more notices pending. -/
theorem liveLowered_congr {s s' t t' : State} {lost : BankId → Nat} (h : liveLowered s lost t)
    (hrun : s'.run.state = s.run.state) (hplan : s'.plan = s.plan) (hp : t'.plan = t.plan) (hk : t.pendingKept t') :
    liveLowered s' lost t' := by
  intro w
  obtain ⟨hd, hn⟩ := h w
  rw [hrun, hplan, hp]
  exact ⟨fun hc => ⟨(hd hc).1, hk _ (hd hc).2⟩, hn⟩

/-! ## The record appended, counted and taken off its bank -/

/-- Steps 1 to 3 of a normal post (R93). -/
def State.recorded (s : State) (i : Instance) (r : ResultRecord) : State :=
  ((s.appendRecord r).lowerLive i.bank 1).offer (resultEvent r)

theorem State.recorded_results (s : State) (i : Instance) (r : ResultRecord) :
    (s.recorded i r).results = { s.results with records := s.results.records ++ [r] } := by
  simp [State.recorded, State.appendRecord_results]

theorem State.recorded_relays (s : State) (i : Instance) (r : ResultRecord) : (s.recorded i r).relays = s.relays := by
  simp [State.recorded]

theorem State.recorded_chans (s : State) (i : Instance) (r : ResultRecord) : (s.recorded i r).chans = s.chans := by
  simp [State.recorded]

theorem State.recorded_counters (s : State) (i : Instance) (r : ResultRecord) :
    (s.recorded i r).counters = (s.offer (resultEvent r)).counters := State.offer_counters_congr (by simp) _

theorem State.recorded_run (s : State) (i : Instance) (r : ResultRecord) :
    (s.recorded i r).run = (s.offer (resultEvent r)).run := State.offer_run_congr (by simp) (by simp) _

theorem State.evolves_lowerLive (s : State) (w : BankId) (k : Nat) : s.Evolves (s.lowerLive w k) := by
  refine ⟨s.pendingKept_lowerLive w k, fun v => ?_, fun _ _ => by simp, fun e he => ⟨e, by simpa using he, rfl⟩,
    Or.inl (by simp)⟩
  obtain ⟨hd, hn, hv⟩ := s.lowerLive_get w v k
  by_cases hvw : v = w
  · subst hvw
    by_cases hc : s.drainedBy v k
    · rw [(hd hc).1]; exact Bank.descends_reset _
    · rw [hn hc]; exact ⟨Or.inl rfl, Or.inl rfl⟩
  · rw [hv hvw]; exact Bank.descends_refl _

theorem State.evolves_recorded (s : State) (i : Instance) (r : ResultRecord) :
    (s.appendRecord r).Evolves (s.recorded i r) :=
  (State.evolves_lowerLive _ i.bank 1).trans (State.evolves_offer _ (resultEvent r))

theorem State.evolves_appendRecord (s : State) (r : ResultRecord) : s.Evolves (s.appendRecord r) :=
  .of_eq (s.pendingKept_appendRecord r) (by simp) (by simp) (by simp)

/-- The watermark test of an appended record (R129). -/
theorem State.appendRecord_ready {s : State} (r : ResultRecord)
    (h : s.link.watermark ≤ s.results.records.length + 1) :
    Notice.resultsReady.isIn (s.appendRecord r).link.pendingSet = true := by
  have hholds : (s.withResults { s.results with records := s.results.records ++ [r] }).resultsReadyHolds = true := by
    unfold State.resultsReadyHolds
    simpa using h
  unfold State.appendRecord State.testResultsReady
  rw [if_pos hholds, State.isIn_raise]
  simp

/-- Where no wrap retires a site: the sites, the dispatcher and the plan but for the live count stand. -/
theorem State.recorded_of_noRetireWrap {s : State} (hn : s.noRetireWrap) (i : Instance) (r : ResultRecord) :
    (s.recorded i r).sites = s.sites ∧ (s.recorded i r).disp = s.disp ∧
      (s.recorded i r).plan = ((s.appendRecord r).lowerLive i.bank 1).plan ∧ (s.recorded i r).noRetireWrap := by
  have hn' : ((s.appendRecord r).lowerLive i.bank 1).noRetireWrap := State.noRetireWrap_of_counters (by simp) hn
  obtain ⟨hsites, hkeep⟩ := State.offer_of_noRetireWrap hn' (resultEvent r)
  obtain ⟨hplan, hdisp⟩ := State.offer_blocks_of_noRetireWrap hn' (resultEvent r)
  exact ⟨hsites.trans (by simp), hdisp.trans (by simp), hplan, hkeep⟩

/-- What steps 1 to 3 change, where no wrap retires a site. -/
theorem State.recorded_eq {s : State} (hn : s.noRetireWrap) (i : Instance) (r : ResultRecord) :
    s.recorded i r =
      { s with
        results := (s.recorded i r).results, plan := (s.recorded i r).plan, link := (s.recorded i r).link
        counters := (s.offer (resultEvent r)).counters, run := (s.offer (resultEvent r)).run } := by
  obtain ⟨hsites, hdisp, -, -⟩ := State.recorded_of_noRetireWrap hn i r
  have htime : (s.recorded i r).time = s.time := by simp [State.recorded]
  have htick : (s.recorded i r).tickTaken = s.tickTaken := by simp [State.recorded]
  have hpending : (s.recorded i r).pending = s.pending := by simp [State.recorded]
  rw [← s.recorded_counters i r, ← s.recorded_run i r]
  have hrelays := s.recorded_relays i r
  have hchans := s.recorded_chans i r
  generalize s.recorded i r = t at *
  obtain ⟨⟩ := t
  simp only at *
  subst_vars
  rfl

/-! ## The CONTACT retirement -/

/-- Steps 1 to 4 of a normal post (R93, R94). -/
def State.posted (s : State) (i : Instance) (r : ResultRecord) : State := (s.recorded i r).contactRetire i r.outcome

theorem State.normalPost_eq (s : State) (c : Chan) (i : Instance) (r : ResultRecord) :
    s.normalPost c i r = (s.posted i r).midExamine.parkOrRelease c i := rfl

theorem State.posted_results (s : State) (i : Instance) (r : ResultRecord) :
    (s.posted i r).results = { s.results with records := s.results.records ++ [r] } :=
  (State.contactRetire_results _ i r.outcome).trans (s.recorded_results i r)

theorem State.posted_relays (s : State) (i : Instance) (r : ResultRecord) : (s.posted i r).relays = s.relays :=
  (State.contactRetire_relays _ i r.outcome).trans (s.recorded_relays i r)

theorem State.posted_chan (s : State) (i : Instance) (r : ResultRecord) (d : Chan) :
    (s.posted i r).chan d = s.chan d :=
  State.chan_of_chans_eq ((State.contactRetire_chans _ i r.outcome).trans (s.recorded_chans i r)) d

theorem State.posted_counters (s : State) (i : Instance) (r : ResultRecord) :
    (s.posted i r).counters = (s.offer (resultEvent r)).counters :=
  (State.contactRetire_counters _ i r.outcome).trans (s.recorded_counters i r)

theorem State.posted_run (s : State) (i : Instance) (r : ResultRecord) :
    (s.posted i r).run = (s.offer (resultEvent r)).run :=
  (State.contactRetire_run _ i r.outcome).trans (s.recorded_run i r)

theorem State.posted_run_state (s : State) (i : Instance) (r : ResultRecord) :
    (s.posted i r).run.state = s.run.state := by rw [State.posted_run, State.offer_run_state]

theorem State.evolves_posted (s : State) (i : Instance) (r : ResultRecord) :
    (s.appendRecord r).Evolves (s.posted i r) :=
  (s.evolves_recorded i r).trans (State.evolves_contactRetire _ i r.outcome)

theorem State.posted_paused (s : State) (i : Instance) (r : ResultRecord) :
    (s.posted i r).disp.paused = s.disp.paused := by
  simp [State.posted, State.recorded]

/-- An examination is due after step 4 where one was, or where an instance has left the window. -/
theorem State.examTracked_posted (s : State) (i : Instance) (r : ResultRecord) : s.examTracked (s.posted i r) := by
  have hlive : s.examTracked ((s.appendRecord r).lowerLive i.bank 1) := State.examTracked_of_eq (by simp)
  have hrec : s.examTracked (s.recorded i r) := hlive.trans (State.examTracked_countAll _ _)
  refine hrec.trans ?_
  rcases (s.recorded i r).contactRetire_cases i r.outcome with ⟨j, -, -, -, h⟩ | ⟨-, h⟩
  · unfold State.posted; rw [h]; exact State.examTracked_retire _ j _
  · unfold State.posted; rw [h]; exact State.examTracked_of_eq rfl

/-- Steps 1 to 4 of a normal post are what `recordPosted` says, but for the examination they start. -/
theorem recordPosted_posted {s : State} (hn : s.noRetireWrap) (he : s.disp.examDue = false) (k : Running)
    (r : ResultRecord) : recordPosted s k r ((s.posted k.inst r).withExamDue false) := by
  obtain ⟨hsites, hdisp, hplan, -⟩ := State.recorded_of_noRetireWrap hn k.inst r
  have hkept := s.evolves_recorded k.inst r
  have hexam : (s.recorded k.inst r).disp.examDue = false := by rw [hdisp]; exact he
  have hstate : ∀ j, (s.recorded k.inst r).siteState j = s.siteState j := fun j => by
    unfold State.siteState; rw [hsites]
  refine ⟨s.recorded k.inst r, s.recorded_results k.inst r, fun hw => hkept.pending _ (State.appendRecord_ready r hw),
    ?_, ((s.evolves_appendRecord r).trans hkept).pending, State.recorded_eq hn k.inst r, fun j hj => ?_, fun hno => ?_⟩
  · exact liveLowered_congr (liveLowered_one (s.appendRecord r) k.inst.bank) (by simp) (by simp) hplan
      (State.evolves_offer _ (resultEvent r)).pending
  · obtain ⟨hsite, hkind, hout, hact⟩ := hj
    have hret : s.posted k.inst r = (s.recorded k.inst r).retire j .contact := by
      simp [State.posted, State.contactRetire, hsite, hkind, hout]
    rw [hret, ← hexam]
    exact siteWithdrawn_retire ((hstate j).trans hact)
  · have hself : s.posted k.inst r = s.recorded k.inst r := by
      rcases (s.recorded k.inst r).contactRetire_cases k.inst r.outcome with ⟨j, hsite, hkind, hout, h⟩ | ⟨-, h⟩
      · refine h.trans (State.retire_of_not_active fun hact => hno j ⟨hsite, hkind, hout, ?_⟩)
        rw [← hstate]; exact hact
      · exact h
    rw [hself]
    exact State.withExamDue_self hexam

end Sys2Proof.Machine
end

section
/-! SUPPORT. Examinations around a normal post (R60, R93): a walk leaves the channels that run something, and, where
nothing can be dispatched, the counters; and the close of an event that no halt is taken at. -/

namespace Sys2Proof.Machine

/-! ## What a walk leaves -/

/-- Every channel that runs something is as it was. -/
def State.KeepsRunning (s t : State) : Prop := ∀ d, (s.chan d).running ≠ none → t.chan d = s.chan d

theorem State.KeepsRunning.of_chans {s t : State} (h : t.chans = s.chans) : s.KeepsRunning t :=
  fun d _ => State.chan_of_chans_eq h d

theorem State.KeepsRunning.trans {s t u : State} (h : s.KeepsRunning t) (g : t.KeepsRunning u) : s.KeepsRunning u :=
  fun d hd => by rw [g d (by rw [h d hd]; exact hd), h d hd]

theorem State.closePhase_chan {s : State} {c d : Chan} (hd : d ≠ c) : (s.closePhase c).chan d = s.chan d := by
  cases hk : (s.chan c).running with
  | none => unfold State.closePhase; simp only [hk]
  | some k =>
    by_cases hn : s.toClose k.inst = []
    · rw [State.closePhase_of_none hk hn, State.withChan_chan, if_neg hd]
    · rw [State.closePhase_of_some hk hn, State.offer_chan]
      exact (s.withChan_chan c d _).trans (if_neg hd)

theorem State.setPhase_chan {s : State} {c d : Chan} (hd : d ≠ c) (p : Phase) :
    (s.setPhase c p).chan d = s.chan d := by
  unfold State.setPhase
  split
  · exact (s.withChan_chan c d _).trans (if_neg hd)
  · rfl

/-- A dispatch changes its own channel alone (R83). -/
theorem State.dispatchTo_chan {s : State} {c d : Chan} (hd : d ≠ c) (e : WindowEntry) :
    (s.dispatchTo e c).chan d = s.chan d := by
  unfold State.dispatchTo
  rw [State.offer_chan]
  unfold State.connectFor
  simp only
  split
  · exact (State.closePhase_chan hd).trans ((State.withChan_chan _ c d _).trans (if_neg hd))
  · exact (State.chan_of_chans_eq (State.appendEntry_chans _ _ _ _) d).trans
      ((State.setPhase_chan hd _).trans ((State.withChan_chan _ c d _).trans (if_neg hd)))

/-- A turn takes no channel that runs something (R68). -/
theorem State.keepsRunning_examineEntry (s : State) (k : BankId × Nat × Site) : s.KeepsRunning (s.examineEntry k) := by
  rcases s.examineEntry_cases k with
    ⟨-, h⟩ | ⟨e, -, ⟨why, -, h⟩ | ⟨owners, -, h⟩ | ⟨c, hdec, h⟩⟩ <;> rw [h]
  · exact .of_chans rfl
  · exact .of_chans rfl
  · exact .of_chans (State.issueRecall_chans s e owners)
  · intro d hd
    refine State.dispatchTo_chan ?_ e
    rintro rfl
    exact hd (State.decideEntry_dispatch_idle hdec)

/-- Where nothing can be dispatched a turn changes no counter. -/
theorem State.examineEntry_counters {s : State} (h : s.disp.paused = true ∨ s.disp.window = [])
    (k : BankId × Nat × Site) : (s.examineEntry k).counters = s.counters := by
  rcases h with h | h
  · rcases s.examineEntry_cases k with
      ⟨-, hx⟩ | ⟨e, -, ⟨why, -, hx⟩ | ⟨owners, hdec, -⟩ | ⟨c, hdec, -⟩⟩
    · rw [hx]
    · rw [hx]; rfl
    · rw [State.decideEntry_paused h] at hdec; cases hdec
    · rw [State.decideEntry_paused h] at hdec; cases hdec
  · unfold State.examineEntry State.entryOf
    rw [h]
    rfl

theorem State.Evolves.window_nil {s t : State} (h : s.Evolves t) (hs : s.disp.window = []) : t.disp.window = [] :=
  List.eq_nil_iff_forall_not_mem.2 fun e he => by
    obtain ⟨d, hd, -⟩ := h.window e he
    rw [hs] at hd
    exact List.not_mem_nil hd

/-- What calm walks leave. -/
structure State.Walked (s t : State) : Prop where
  calm : s.Calm t
  evolves : s.Evolves t
  running : s.KeepsRunning t
  counters : s.disp.paused = true ∨ s.disp.window = [] → t.counters = s.counters

theorem State.Walked.refl (s : State) : s.Walked s := ⟨.refl s, .refl s, .of_chans rfl, fun _ => rfl⟩

theorem State.Walked.trans {s t u : State} (h : s.Walked t) (g : t.Walked u) : s.Walked u where
  calm := h.calm.trans g.calm
  evolves := h.evolves.trans g.evolves
  running := h.running.trans g.running
  counters := fun hs => (g.counters (hs.imp h.calm.paused.trans h.evolves.window_nil)).trans (h.counters hs)

theorem State.walked_withExamDue (s : State) (e : Bool) : s.Walked (s.withExamDue e) :=
  ⟨s.calm_withExamDue e, s.evolves_withExamDue e, .of_chans rfl, fun _ => rfl⟩

theorem State.walked_walk {s : State} (h : s.walksCalm) : s.Walked s.walk := by
  rcases h with h | h
  · exact State.walk_rel State.Walked.refl State.Walked.trans (fun t => t.walked_withExamDue false)
      (fun t k ht => ⟨(State.examineEntry_calm ht k).1, t.evolves_examineEntry k, t.keepsRunning_examineEntry k,
        fun hq => State.examineEntry_counters hq k⟩) h
  · rw [State.walk_of_window_nil h]
    exact s.walked_withExamDue false

theorem State.Walked.walksCalm {s t : State} (h : s.Walked t) (hs : s.walksCalm) : t.walksCalm :=
  hs.imp h.calm.turnsCalm h.evolves.window_nil

theorem Examined.walked {s t : State} (hx : Examined s t) (h : s.walksCalm) : s.Walked t := by
  induction hx with
  | last s _ => exact State.walked_walk h
  | again s t _ _ ih => exact (State.walked_walk h).trans (ih ((State.walked_walk h).walksCalm h))

/-! ## States whose posts are calm -/

/-- No counter acts on a wrap; or nothing can be dispatched and no wrap retires a site. -/
def State.postsCalm (s : State) : Prop := s.countersPassive ∨ (s.dispatchQuiet ∧ s.noRetireWrap)

theorem State.postsCalm.noRetireWrap {s : State} (h : s.postsCalm) : s.noRetireWrap :=
  h.elim State.noRetireWrap_of_passive And.right

theorem State.postsCalm.walksCalm {s : State} (h : s.postsCalm) (hact : s.run.state = .active) : s.walksCalm :=
  h.elim State.walksCalm_of_passive fun hq => State.walksCalm_of_dispatchQuiet hq.1 hact

/-- Nothing can be dispatched still. -/
theorem State.dispatchQuiet_of {s t : State} (h : s.dispatchQuiet)
    (hrun : s.run.state ≠ .active → t.run.state ≠ .active) (hpaused : t.disp.paused = s.disp.paused)
    (hwin : s.disp.window = [] → t.disp.window = []) : t.dispatchQuiet :=
  h.imp hrun (Or.imp hpaused.trans hwin)

theorem State.countersPassive_of_counters {s t : State} (h : t.counters = s.counters) (hs : s.countersPassive) :
    t.countersPassive := by
  unfold State.countersPassive; rw [h]; exact hs

/-- An operation that leaves the counters and the dispatcher, and makes no run ACTIVE. -/
theorem State.postsCalm_of {s t : State} (h : s.postsCalm) (hc : t.counters = s.counters)
    (hrun : s.run.state ≠ .active → t.run.state ≠ .active) (hpaused : t.disp.paused = s.disp.paused)
    (hwin : s.disp.window = [] → t.disp.window = []) : t.postsCalm :=
  h.imp (State.countersPassive_of_counters hc) fun hq =>
    ⟨State.dispatchQuiet_of hq.1 hrun hpaused hwin, State.noRetireWrap_of_counters hc hq.2⟩

theorem State.dispatchQuiet_posted {s : State} (h : s.dispatchQuiet) (i : Instance) (r : ResultRecord) :
    (s.posted i r).dispatchQuiet :=
  State.dispatchQuiet_of h (by rw [State.posted_run_state]; exact id) (s.posted_paused i r)
    ((s.evolves_appendRecord r).trans (s.evolves_posted i r)).window_nil

theorem State.countersPassive_posted {s : State} (h : s.countersPassive) (i : Instance) (r : ResultRecord) :
    (s.posted i r).countersPassive :=
  State.countersPassive_of_counters (s.posted_counters i r) ((State.offer_passive h (resultEvent r)).1.passive h)

/-- Steps 1 to 4 of a post keep posts calm. -/
theorem State.postsCalm_posted {s : State} (h : s.postsCalm) (i : Instance) (r : ResultRecord) :
    (s.posted i r).postsCalm :=
  h.imp (fun hp => State.countersPassive_posted hp i r) fun hq => ⟨State.dispatchQuiet_posted hq.1 i r,
    State.noRetireWrap_of_counters (s.posted_counters i r) (State.offer_of_noRetireWrap hq.2 (resultEvent r)).2⟩

/-- Calm walks in an ACTIVE run keep posts calm. -/
theorem State.Walked.postsCalm {s t : State} (h : s.Walked t) (hs : s.postsCalm) (hact : s.run.state = .active) :
    t.postsCalm := by
  refine hs.imp h.calm.passive fun hq => ?_
  have hquiet : s.disp.paused = true ∨ s.disp.window = [] := hq.1.resolve_left fun hna => hna hact
  exact ⟨State.dispatchQuiet_of hq.1 (by rw [h.calm.run]; exact id) h.calm.paused h.evolves.window_nil,
    State.noRetireWrap_of_counters (h.counters hquiet) hq.2⟩

/-! ## The close of an event -/

theorem State.closeEvent_examDue (s : State) : s.closeEvent.disp.examDue = false := by
  unfold State.closeEvent
  rw [State.testDone_disp]
  rfl

/-- Where posts are calm and no halt is asked for, the close of an event is calm walks and the completion test. -/
theorem State.closeEvent_walked {s : State} (h : s.postsCalm) (hask : s.run.haltAsked = false) :
    ∃ u, s.Walked u ∧ (s.dispatchQuiet → u.counters = s.counters) ∧ u.postsCalm ∧ s.closeEvent = u.testDone := by
  by_cases hno : s.disp.examDue = false ∨ s.run.state ≠ .active
  · exact ⟨_, s.walked_withExamDue false, fun _ => rfl, h, State.closeEvent_of_quiet hask hno⟩
  · obtain ⟨hexam, hact⟩ := not_or.1 hno
    have hact := not_not.1 hact
    obtain ⟨u, hx, -, he⟩ := State.closeEvent_examined (h.walksCalm hact) hask hact
    rw [State.withExamDue_self (Bool.eq_true_of_not_eq_false hexam)] at he
    have hw := hx.walked (h.walksCalm hact)
    exact ⟨u, hw, fun hq => hw.counters (hq.resolve_left fun hna => hna hact), hw.postsCalm h hact, he⟩

theorem State.testDone_haltAsked (s : State) : s.testDone.run.haltAsked = s.run.haltAsked := by
  cases h : s.completed
  · rw [State.testDone_of_not h]
  · rw [State.testDone_of_completed_eq h]; rfl

/-- The completion test makes no run ACTIVE. -/
theorem State.testDone_not_active {s : State} (h : s.run.state ≠ .active) : s.testDone.run.state ≠ .active := by
  rw [State.testDone_of_not]
  · exact h
  · rw [Bool.eq_false_iff, Ne, State.completed_iff]; exact fun hd => h hd.1

theorem State.wf_endRelease {s : State} (h : s.relays.nodes.wf = true) (c : Chan) :
    (s.endRelease c).relays.nodes.wf = true := by
  unfold State.endRelease
  split
  · exact h
  · split
    · exact h
    · split
      · exact State.wf_appendEntry h _ _ _
      · exact h

theorem State.wf_testDone {s : State} (h : s.relays.nodes.wf = true) : s.testDone.relays.nodes.wf = true := by
  cases hc : s.completed
  · rw [State.testDone_of_not hc]; exact h
  · rw [State.testDone_of_completed hc]
    have hfold : ∀ (l : List Chan) (t : State), t.relays.nodes.wf = true →
        (l.foldl State.endRelease t).relays.nodes.wf = true := by
      intro l
      induction l with
      | nil => exact fun _ => id
      | cons c l ih => exact fun t ht => ih _ (State.wf_endRelease ht c)
    exact hfold allChans (s.withRun { s.run with state := .done }) h

/-- What the close of an event leaves, where posts are calm and no halt is taken. -/
structure State.Closed (s t : State) : Prop where
  clear : t.transientsClear
  results : t.results = s.results
  chans : s.KeepsRunning t
  calm : t.postsCalm
  passive : s.countersPassive → t.countersPassive
  wf : s.relays.nodes.wf = true → t.relays.nodes.wf = true
  still : s.countersStill → t.counters = s.counters
  quiet : s.dispatchQuiet → t.counters = s.counters

theorem State.closed_of_unasked {s : State} (h : s.postsCalm) (hask : s.run.haltAsked = false) :
    s.Closed s.closeEvent := by
  obtain ⟨u, hw, hquiet, hcalm, he⟩ := State.closeEvent_walked h hask
  have hcnt := u.testDone_counters
  have hexam := s.closeEvent_examDue
  rw [he] at hexam ⊢
  refine ⟨⟨hexam, ?_⟩, u.testDone_results.trans hw.calm.results,
    hw.running.trans (.of_chans u.testDone_chans), ?_,
    fun hp => State.countersPassive_of_counters hcnt (hw.calm.passive hp),
    fun hwf => State.wf_testDone (hw.calm.wf hwf), fun hf => hcnt.trans (hw.calm.still hf),
    fun hq => hcnt.trans (hquiet hq)⟩
  · rw [State.testDone_haltAsked, hw.calm.run]; exact hask
  · exact State.postsCalm_of hcalm hcnt State.testDone_not_active (by rw [State.testDone_disp])
      (by rw [State.testDone_disp]; exact id)

/-- Outside an ACTIVE run a halt asked for is dropped at the close (R152). -/
theorem State.closed_of_not_active {s : State} (h : s.postsCalm) (hna : s.run.state ≠ .active) :
    s.Closed s.closeEvent := by
  rw [State.closeEvent_of_not_active hna]
  exact ⟨⟨rfl, rfl⟩, rfl, .of_chans rfl, h, id, id, fun _ => rfl, fun _ => rfl⟩

theorem State.closed_closeEvent {s : State} (h : s.postsCalm)
    (hno : ¬ (s.run.haltAsked = true ∧ s.run.state = .active)) : s.Closed s.closeEvent := by
  by_cases hact : s.run.state = .active
  · exact State.closed_of_unasked h (Bool.eq_false_iff.2 fun ha => hno ⟨ha, hact⟩)
  · exact State.closed_of_not_active h hact

/-- The close of an event of an ACTIVE run whose examination is already due, as `closedFrom` says it from the state with
or without that mark. -/
theorem closedFrom_of_due {s : State} (h : s.postsCalm) (hask : s.run.haltAsked = false)
    (hexam : s.run.state = .active ∨ s.disp.examDue = false) (hwf : s.relays.nodes.wf = true) :
    closedFrom s (s.withExamDue true).closeEvent := by
  rcases hexam with hact | hexam
  · obtain ⟨u, hx, hc, he⟩ := State.closeEvent_examined (h.walksCalm hact) hask hact
    exact ⟨fun _ => ⟨u, hx, he ▸ completionTested_testDone (hc.wf hwf)⟩, fun hna => absurd hact hna⟩
  · exact closedFrom_closeEvent h.walksCalm hask hexam (Or.inl hwf)

end Sys2Proof.Machine
end

section
/-! SUPPORT. A normal post whole (R93 to R96): the channel parked or released, and the close of the event, as `postMade`
says. -/

namespace Sys2Proof.Machine

/-! ## Parking and releasing (R44, R45, R95, R96) -/

/-- The state with channel c's context replaced by one in RELEASING. -/
def State.withReleasing (s : State) (c : Chan) (k : Running) : State :=
  s.withChan c { s.chan c with running := some { k with phase := .releasing } }

/-- The channel's nodes are parked or released without waiting: a HOLD step, no HELD node, or a free slot that no append
waits for. -/
def State.leavesNow (s : State) (c : Chan) (hold : Bool) : Prop :=
  hold = true ∨ s.relays.nodes.heldOn c = [] ∨ (s.relays.queue.length < 8 ∧ s.relays.waitList = [])

/-- The Relay Map's part of the parking or the release, with the channel as it was. -/
def State.relaysLeft (s : State) (c : Chan) (hold : Bool) : State :=
  if hold then s.parkNodes c
  else if s.relays.nodes.heldOn c = [] then s
  else if s.slotFree && decide (s.relays.waitList = []) then
    s.appendEntry c .complete ((s.relays.nodes.heldOn c).map Prod.fst)
  else s.joinWaitList c .complete

theorem State.slotFree_and_iff (s : State) :
    (s.slotFree && decide (s.relays.waitList = [])) = true ↔ s.relays.queue.length < 8 ∧ s.relays.waitList = [] := by
  rw [Bool.and_eq_true, State.slotFree_iff, decide_eq_true_iff]

theorem State.setPhase_running {s : State} {c : Chan} {k : Running} (hk : (s.chan c).running = some k) (p : Phase) :
    s.setPhase c p = s.withChan c { s.chan c with running := some { k with phase := p } } := by
  unfold State.setPhase
  simp only [hk]
  rfl

theorem State.makeIdle_withReleasing (s : State) (c : Chan) (k : Running) :
    (s.withReleasing c k).makeIdle c = s.makeIdle c := by
  unfold State.makeIdle State.withRunning State.withReleasing
  rw [State.withChan_chan_self, State.withChan_withChan]

/-- The channel is IDLE once its nodes are parked or released, and else waits in RELEASING. -/
theorem State.parkOrRelease_eq {s : State} {c : Chan} {k : Running} (hk : (s.chan c).running = some k) :
    (s.leavesNow c k.inst.step.hold →
      s.parkOrRelease c k.inst = (s.relaysLeft c k.inst.step.hold).makeIdle c) ∧
    (¬ s.leavesNow c k.inst.step.hold →
      s.parkOrRelease c k.inst = (s.relaysLeft c k.inst.step.hold).withReleasing c k) := by
  have hphase := State.setPhase_running hk .releasing
  unfold State.leavesNow State.relaysLeft State.parkOrRelease
  by_cases hh : k.inst.step.hold = true
  · rw [if_pos hh, if_pos hh]
    exact ⟨fun _ => rfl, fun hc => absurd (Or.inl hh) hc⟩
  · rw [if_neg hh, if_neg hh, hphase]
    change (_ → (s.withReleasing c k).releaseChannel c = _) ∧ (_ → (s.withReleasing c k).releaseChannel c = _)
    unfold State.releaseChannel
    by_cases hn : s.relays.nodes.heldOn c = []
    · rw [if_pos hn, if_pos (show (s.withReleasing c k).relays.nodes.heldOn c = [] from hn)]
      exact ⟨fun _ => s.makeIdle_withReleasing c k, fun hc => absurd (Or.inr (Or.inl hn)) hc⟩
    · rw [if_neg hn, if_neg (show (s.withReleasing c k).relays.nodes.heldOn c ≠ [] from hn)]
      by_cases hr : (s.slotFree && decide (s.relays.waitList = [])) = true
      · rw [if_pos hr, if_pos (show ((s.withReleasing c k).slotFree &&
          decide ((s.withReleasing c k).relays.waitList = [])) = true from hr)]
        exact ⟨fun _ => State.makeIdle_withReleasing (s.appendEntry c .complete _) c k,
          fun hc => absurd (Or.inr (Or.inr (s.slotFree_and_iff.1 hr))) hc⟩
      · rw [if_neg hr, if_neg (show ¬ ((s.withReleasing c k).slotFree &&
          decide ((s.withReleasing c k).relays.waitList = [])) = true from hr)]
        refine ⟨fun hl => ?_, fun _ => rfl⟩
        rcases hl with hl | hl | hl
        · exact absurd hl hh
        · exact absurd hl hn
        · exact absurd (s.slotFree_and_iff.2 hl) hr

theorem State.relaysLeft_eq (s : State) (c : Chan) (hold : Bool) :
    s.relaysLeft c hold = s.withRelays (s.relaysLeft c hold).relays := by
  unfold State.relaysLeft
  repeat' split
  all_goals rfl

theorem State.wf_relaysLeft {s : State} (h : s.relays.nodes.wf = true) (c : Chan) (hold : Bool) :
    (s.relaysLeft c hold).relays.nodes.wf = true := by
  unfold State.relaysLeft
  split
  · exact NodeTable.wf_rewrite h _
  · split
    · exact h
    · split
      · exact State.wf_appendEntry h _ _ _
      · exact h

theorem parkEntry_closeCount (c : Chan) (n : Node) (e : NodeEntry) : (parkEntry c n e).closeCount = e.closeCount := by
  unfold parkEntry
  split
  · split <;> rfl
  · rfl

theorem parkEntry_state (c : Chan) (n : Node) (e : NodeEntry) :
    (parkEntry c n e).state =
      match e.state with
      | .held d l => if d = c then .parked c l else .held d l
      | y => y := by
  obtain ⟨x, m⟩ := e
  cases x with
  | held d l => by_cases hd : d = c <;> simp [parkEntry, hd]
  | _ => rfl

theorem NodeTable.heldOn_eq_nil {t : NodeTable} (h : t.wf = true) (c : Chan) :
    t.heldOn c = [] ↔ ∀ n l, t.state n ≠ .held c l := by
  rw [List.eq_nil_iff_forall_not_mem, Prod.forall]
  exact forall₂_congr fun n l => not_congr (NodeTable.mem_heldOn h c n l)

/-- The relays are as `parkedOrReleased` says. -/
theorem parkedOrReleased_relaysLeft {s : State} (hwf : s.relays.nodes.wf = true) (c : Chan) (hold : Bool) :
    parkedOrReleased s.time c hold s.relays (s.relaysLeft c hold).relays := by
  have hheld : s.relays.nodes.heldOn c = [] ↔ ∀ n, ¬ ∃ l, s.relays.nodes.state n = .held c l := by
    simp only [NodeTable.heldOn_eq_nil hwf, not_exists, ne_eq]
  unfold State.relaysLeft
  refine ⟨fun hh => ?_, fun hh hno => ?_, fun hh hsome hroom => ?_, fun hh hsome hroom => ?_⟩
  · rw [if_pos hh]
    refine ⟨rfl, fun n => ?_⟩
    have hget : (s.parkNodes c).relays.nodes.get n = parkEntry c n (s.relays.nodes.get n) :=
      NodeTable.get_rewrite hwf (parkEntry c) (fun _ => rfl) n
    unfold NodeTable.state
    rw [hget]
    exact ⟨parkEntry_closeCount c n _, parkEntry_state c n _⟩
  · rw [if_neg (by rw [hh]; exact Bool.false_ne_true), if_pos (hheld.2 hno)]
  · have hne : s.relays.nodes.heldOn c ≠ [] := fun hnil => hsome.elim (hheld.1 hnil)
    rw [if_neg (by rw [hh]; exact Bool.false_ne_true), if_neg hne, if_pos (s.slotFree_and_iff.2 hroom)]
    have hmem := NodeTable.mem_map_heldOn hwf c
    refine ⟨⟨_, s.appended_appendEntry c .complete (NodeTable.pairwise_heldOn hwf c) hmem⟩, rfl, fun n => ?_⟩
    obtain ⟨hcount, hin, hout⟩ := State.appendEntry_nodes hwf c .complete _
      (fun m hm => by obtain ⟨l, hl⟩ := (hmem m).1 hm; rw [hl]; rfl) n
    refine ⟨hcount, ?_⟩
    rw [hmem] at hin hout
    cases hx : s.relays.nodes.state n with
    | held d l =>
      by_cases hd : d = c
      · simp only [hd, if_true]
        exact hin ⟨l, by rw [hx, hd]⟩
      · simp only [hd, if_false]
        rw [← hx]
        exact hout fun ⟨l', hl⟩ => hd (by rw [hx] at hl; cases hl; rfl)
    | free _ | closing _ _ | parked _ _ | opening _ =>
      simp only
      rw [← hx]
      exact hout fun ⟨l', hl⟩ => by rw [hx] at hl; cases hl
  · have hne : s.relays.nodes.heldOn c ≠ [] := fun hnil => hsome.elim (hheld.1 hnil)
    rw [if_neg (by rw [hh]; exact Bool.false_ne_true), if_neg hne, if_neg fun hc => hroom (s.slotFree_and_iff.1 hc)]
    rfl

/-- The channels after the parking or the release. -/
theorem State.parkOrRelease_chan {s : State} {c : Chan} {k : Running} (hk : (s.chan c).running = some k) :
    (∀ d, d ≠ c → (s.parkOrRelease c k.inst).chan d = s.chan d) ∧
      (((s.parkOrRelease c k.inst).chan c).running = none ∨
        ((s.parkOrRelease c k.inst).chan c).running = some { k with phase := .releasing }) := by
  obtain ⟨hyes, hno⟩ := State.parkOrRelease_eq hk
  have hleft : ∀ d, (s.relaysLeft c k.inst.step.hold).chan d = s.chan d := fun d => by
    rw [State.relaysLeft_eq]; rfl
  by_cases h : s.leavesNow c k.inst.step.hold
  · rw [hyes h]
    refine ⟨fun d hd => ?_, Or.inl ?_⟩
    · exact ((State.withChan_chan _ c d _).trans (if_neg hd)).trans (hleft d)
    · exact congrArg Channel.running (State.withChan_chan_self _ c _)
  · rw [hno h]
    refine ⟨fun d hd => ?_, Or.inr ?_⟩
    · exact ((State.withChan_chan _ c d _).trans (if_neg hd)).trans (hleft d)
    · exact congrArg Channel.running (State.withChan_chan_self _ c _)

theorem State.parkOrRelease_window {s : State} {c : Chan} {k : Running} (hk : (s.chan c).running = some k) :
    (s.parkOrRelease c k.inst).disp.window = s.disp.window := by
  obtain ⟨hyes, hno⟩ := State.parkOrRelease_eq hk
  by_cases h : s.leavesNow c k.inst.step.hold
  · rw [hyes h, State.relaysLeft_eq]; rfl
  · rw [hno h, State.relaysLeft_eq]; rfl

theorem State.wf_parkOrRelease {s : State} {c : Chan} {k : Running} (hk : (s.chan c).running = some k)
    (hwf : s.relays.nodes.wf = true) : (s.parkOrRelease c k.inst).relays.nodes.wf = true := by
  obtain ⟨hyes, hno⟩ := State.parkOrRelease_eq hk
  by_cases h : s.leavesNow c k.inst.step.hold
  · rw [hyes h]; exact State.wf_relaysLeft hwf _ _
  · rw [hno h]; exact State.wf_relaysLeft hwf _ _

/-! ## The examination before the parking (R94) -/

/-- The examination of step 4 of a post is made: one is due, in an ACTIVE run, with no halt asked for. -/
def State.midDue (s : State) : Prop := s.disp.examDue = true ∧ s.run.state = .active ∧ s.run.haltAsked = false

theorem State.midExamine_of_due {s : State} (h : s.midDue) : s.midExamine = s.walk := by
  unfold State.midExamine
  refine if_pos ?_
  simp [h.1, h.2.2, s.active_iff.2 h.2.1]

theorem State.midExamine_of_not {s : State} (h : ¬ s.midDue) : s.midExamine = s := by
  unfold State.midExamine
  refine if_neg fun hc => h ?_
  rw [Bool.and_eq_true, Bool.and_eq_true, State.active_iff, Bool.not_eq_true'] at hc
  exact ⟨hc.1.1, hc.1.2, hc.2⟩

/-- That examination is calm walks. -/
theorem State.walked_midExamine {s : State} (h : s.postsCalm) :
    s.Walked s.midExamine ∧ s.midExamine.postsCalm ∧ (s.dispatchQuiet → s.midExamine.counters = s.counters) := by
  by_cases hd : s.midDue
  · rw [State.midExamine_of_due hd]
    have hw := State.walked_walk (h.walksCalm hd.2.1)
    exact ⟨hw, hw.postsCalm h hd.2.1, fun hq => hw.counters (hq.resolve_left fun hna => hna hd.2.1)⟩
  · rw [State.midExamine_of_not hd]
    exact ⟨.refl s, h, fun _ => rfl⟩

/-- The post up to its parking takes no channel that runs something. -/
theorem State.keepsRunning_posted {s : State} (h : s.postsCalm) (i : Instance) (r : ResultRecord) :
    s.KeepsRunning (s.posted i r).midExamine :=
  State.KeepsRunning.trans (fun d _ => s.posted_chan i r d)
    (State.walked_midExamine (State.postsCalm_posted h i r)).1.running

/-! ## The post (R93) -/

/-- What a normal post leaves before the close of its event, where posts are calm. -/
structure State.PostLeaves (s : State) (c : Chan) (k : Running) (r : ResultRecord) (t : State) : Prop where
  results : t.results = { s.results with records := s.results.records ++ [r] }
  run : t.run = (s.offer (resultEvent r)).run
  pending : (s.appendRecord r).pendingKept t
  chan : ∀ d, d ≠ c → (s.chan d).running ≠ none → t.chan d = s.chan d
  calm : t.postsCalm
  passive : s.countersPassive → t.countersPassive
  wf : s.relays.nodes.wf = true → t.relays.nodes.wf = true
  still : s.countersStill → t.counters = s.counters
  quiet : s.dispatchQuiet → t.dispatchQuiet ∧ t.counters = (s.offer (resultEvent r)).counters

theorem State.normalPost_leaves {s : State} {c : Chan} {k : Running} (h : s.postsCalm)
    (hk : (s.chan c).running = some k) (r : ResultRecord) : s.PostLeaves c k r (s.normalPost c k.inst r) := by
  obtain ⟨hw, hmid, hquiet⟩ := State.walked_midExamine (State.postsCalm_posted h k.inst r)
  have hrunning := State.keepsRunning_posted h k.inst r
  have hk' : ((s.posted k.inst r).midExamine.chan c).running = some k := by
    rw [hrunning c (by rw [hk]; exact Option.some_ne_none k), hk]
  have hcnt := State.parkOrRelease_counters (s.posted k.inst r).midExamine c k.inst
  have hrun := State.parkOrRelease_run (s.posted k.inst r).midExamine c k.inst
  have hpaused := State.parkOrRelease_disp_paused (s.posted k.inst r).midExamine c k.inst
  have hwin := State.parkOrRelease_window hk'
  rw [State.normalPost_eq]
  refine ⟨?_, ?_, ?_, fun d hd hr => ?_, ?_, fun hp => ?_, fun hwf => ?_, fun hf => ?_, fun hq => ⟨?_, ?_⟩⟩
  · rw [State.parkOrRelease_results, State.midExamine_results, State.posted_results]
  · rw [hrun, hw.calm.run, State.posted_run]
  · refine ((s.evolves_posted k.inst r).trans hw.evolves).pending.trans (State.pendingKept_of_eq ?_)
    rw [State.parkOrRelease_link]
  · rw [(State.parkOrRelease_chan hk').1 d hd, hrunning d hr]
  · exact State.postsCalm_of hmid hcnt (by rw [hrun]; exact id) hpaused (by rw [hwin]; exact id)
  · exact State.countersPassive_of_counters hcnt (hw.calm.passive (State.countersPassive_posted hp k.inst r))
  · exact State.wf_parkOrRelease hk' (hw.calm.wf (by rw [State.posted_relays]; exact hwf))
  · have hpost : (s.posted k.inst r).counters = s.counters := by
      rw [State.posted_counters, State.offer_frozen hf]
    rw [hcnt, hw.calm.still (by unfold State.countersStill; rw [hpost]; exact hf), hpost]
  · exact State.dispatchQuiet_of (State.dispatchQuiet_posted hq k.inst r) (by rw [hrun, hw.calm.run]; exact id)
      (hpaused.trans hw.calm.paused) (by rw [hwin]; exact hw.evolves.window_nil)
  · rw [hcnt, hquiet (State.dispatchQuiet_posted hq k.inst r), State.posted_counters]

/-! ## The post and its close, in the terms of the statements -/

/-- The examination before the parking, with the mark it leaves for the close taken off where it has not been made: `n`
is the state that `postMade` speaks of. -/
theorem State.exists_midExamined {s : State} (h : s.postsCalm) :
    ∃ n, s.midExamine = n.withExamDue s.midExamine.disp.examDue ∧
      (s.midDue → n = (s.withExamDue false).walk) ∧ (¬ s.midDue → n = s.withExamDue false) ∧
      (n.run.state = .active ∨ n.disp.examDue = false) ∧
      (n.disp.window.length < s.disp.window.length → s.midExamine.disp.examDue = true) ∧
      (s.run.haltAsked = false → ¬ n.disp.window.length < s.disp.window.length →
        n.disp.examDue = false ∧ (s.midExamine.disp.examDue = false ∨ n.run.state ≠ .active)) := by
  by_cases hd : s.midDue
  · rw [State.midExamine_of_due hd]
    obtain ⟨hcalm, -, hexam⟩ := State.walksCalm_walk (h.walksCalm hd.2.1)
    refine ⟨s.walk, (State.withExamDue_self rfl).symm, fun _ => rfl, fun hn => absurd hd hn,
      Or.inl (by rw [hcalm.run]; exact hd.2.1), fun hlt => by rw [hexam]; exact decide_eq_true hlt, fun _ hnl => ?_⟩
    have hfalse : s.walk.disp.examDue = false := by rw [hexam]; exact decide_eq_false hnl
    exact ⟨hfalse, Or.inl hfalse⟩
  · rw [State.midExamine_of_not hd]
    refine ⟨s.withExamDue false, (State.withExamDue_self rfl).symm, fun hc => absurd hc hd, fun _ => rfl, Or.inr rfl,
      fun hlt => absurd hlt (lt_irrefl _), fun hask _ => ⟨rfl, ?_⟩⟩
    by_cases he : s.disp.examDue = false
    · exact Or.inl he
    · exact Or.inr fun hact => hd ⟨Bool.eq_true_of_not_eq_false he, hact, hask⟩

/-- The parking or the release, as `postMade` says it: `p` is the state after it, `x` whether an examination is due. -/
theorem State.exists_parked {n : State} {c : Chan} {k : Running} (hk : (n.chan c).running = some k)
    (hwf : n.relays.nodes.wf = true) (e : Bool) :
    ∃ (p : State) (x : Bool), (n.withExamDue e).parkOrRelease c k.inst = p.withExamDue x ∧
      parkedOrReleased n.time c k.inst.step.hold n.relays p.relays ∧ p.disp = n.disp ∧ p.run = n.run ∧
      (n.leavesNow c k.inst.step.hold →
        x = true ∧ p = (n.withRelays p.relays).withChan c { n.chan c with running := none }) ∧
      (¬ n.leavesNow c k.inst.step.hold →
        x = e ∧ p = (n.withRelays p.relays).withChan c
          { n.chan c with running := some { k with phase := .releasing } }) := by
  obtain ⟨hyes, hno⟩ := State.parkOrRelease_eq (s := n.withExamDue e) hk
  have hrel := parkedOrReleased_relaysLeft (s := n.withExamDue e) hwf c k.inst.step.hold
  have hleft := (n.withExamDue e).relaysLeft_eq c k.inst.step.hold
  generalize ((n.withExamDue e).relaysLeft c k.inst.step.hold).relays = r at hrel hleft
  rw [hleft] at hyes hno
  by_cases h : n.leavesNow c k.inst.step.hold
  · exact ⟨(n.withRelays r).withChan c { n.chan c with running := none }, true, hyes h, hrel, rfl, rfl,
      fun _ => ⟨rfl, rfl⟩, fun hc => absurd h hc⟩
  · exact ⟨(n.withRelays r).withReleasing c k, e, hno h, hrel, rfl, rfl, fun hc => absurd hc h, fun _ => ⟨rfl, rfl⟩⟩

/-- A close that takes the halt asked for takes it from the state with or without the mark of a due examination. -/
theorem haltTaken_marked {p : State} {x : Bool} (ha : p.run.haltAsked = true) (hact : p.run.state = .active)
    (hwf : p.relays.nodes.wf = true) : haltTaken p .limit (p.withExamDue x).closeEvent :=
  haltTaken_of_transients (e := x) (asked := p.run.haltAsked) (haltTaken_closeEvent (s := p.withExamDue x) ha hact hwf)

/-- Outside an ACTIVE run the close drops the mark and the halt asked for. -/
theorem State.closeEvent_marked {p : State} {x : Bool} (hna : p.run.state ≠ .active) (he : p.disp.examDue = false) :
    (p.withExamDue x).closeEvent = p.withRun { p.run with haltAsked := false } := by
  rw [State.closeEvent_of_not_active (s := p.withExamDue x) hna]
  exact State.withExamDue_self (s := p.withRun { p.run with haltAsked := false }) he

/-- A close with nothing to examine leaves a state in which a channel runs something. -/
theorem State.closeEvent_marked_running {p : State} {c : Chan} {e : Bool} (hask : p.run.haltAsked = false)
    (he : p.disp.examDue = false) (hno : e = false ∨ p.run.state ≠ .active) (hk : (p.chan c).running ≠ none) :
    (p.withExamDue e).closeEvent = p := by
  rw [State.closeEvent_of_quiet (s := p.withExamDue e) hask hno, State.withExamDue_withExamDue,
    State.withExamDue_self he, State.testDone_of_running hk]

/-- A normal post and the close of its event are what `postMade` says. -/
theorem postMade_normalPost {s : State} {c : Chan} {k : Running} (hwf : s.relays.nodes.wf = true)
    (he : s.disp.examDue = false) (hc : s.postsCalm) (hk : (s.chan c).running = some k) (r : ResultRecord) :
    postMade s c k r (s.normalPost c k.inst r).closeEvent := by
  have hcalm := State.postsCalm_posted hc k.inst r
  obtain ⟨n, hn, hdue, hnot, hactive, hmoved, hstay⟩ := State.exists_midExamined hcalm
  have hleaves := State.normalPost_leaves hc hk r
  have hmid := (State.walked_midExamine hcalm).1
  have hkeeps := State.keepsRunning_posted hc k.inst r
  rw [State.normalPost_eq] at hleaves ⊢
  set e := (s.posted k.inst r).midExamine.disp.examDue
  rw [hn] at hleaves hmid hkeeps ⊢
  have hkn : (n.chan c).running = some k :=
    (congrArg Channel.running (hkeeps c (by rw [hk]; exact Option.some_ne_none k))).trans hk
  have hwfn : n.relays.nodes.wf = true := hmid.calm.wf (by rw [State.posted_relays]; exact hwf)
  have hrunn : n.run = (s.posted k.inst r).run := hmid.calm.run
  obtain ⟨p, x, hx, hrel, hdisp, hrun, hyes, hno⟩ := State.exists_parked hkn hwfn e
  rw [hx] at hleaves ⊢
  have hwfp : p.relays.nodes.wf = true := hleaves.wf hwf
  have hstate : p.run.state = s.run.state := by rw [hrun, hrunn, State.posted_run_state]
  have hactive : p.run.state = .active ∨ p.disp.examDue = false := by rw [hrun, hdisp]; exact hactive
  refine ⟨(s.posted k.inst r).withExamDue false, n, p, recordPosted_posted hc.noRetireWrap he k r, ?_⟩
  intro removed walks leaves
  have hwalks : walks ↔ (s.posted k.inst r).midDue := by
    have hexam := (s.examTracked_posted k.inst r).2
    rw [he, Bool.false_or] at hexam
    unfold State.midDue
    rw [hexam, State.posted_run_state, decide_eq_true_iff]
    exact Iff.rfl
  have hlv : leaves ↔ n.leavesNow c k.inst.step.hold :=
    or_congr_right (or_congr_left (NodeTable.heldOn_eq_nil hwfn c).symm)
  refine ⟨fun h => hdue (hwalks.1 h), fun h => hnot fun hc => h (hwalks.2 hc), hrel, fun h => (hyes (hlv.1 h)).2,
    fun h => (hno fun hc => h (hlv.2 hc)).2, fun ha hact => haltTaken_marked ha (hstate.trans hact) hwfp,
    fun ha hna => ?_, fun ha => ⟨fun hcalled => ?_, fun hquiet => ?_⟩⟩
  · have hna : p.run.state ≠ .active := hstate.trans_ne hna
    exact State.closeEvent_marked hna (hactive.resolve_left hna)
  · have hmark : x = true := by
      by_cases h : n.leavesNow c k.inst.step.hold
      · exact (hyes h).1
      · exact (hno h).1.trans (hmoved (hcalled.resolve_left fun hl => h (hlv.1 hl)))
    rw [hmark]
    exact closedFrom_of_due hleaves.calm ha hactive hwfp
  · obtain ⟨hnl, hnm⟩ := not_or.1 hquiet
    obtain ⟨hmark, hp⟩ := hno fun hc => hnl (hlv.2 hc)
    obtain ⟨hclear, hor⟩ := hstay (by rw [← hrunn, ← hrun]; exact ha) hnm
    rw [hmark]
    refine State.closeEvent_marked_running (c := c) ha (by rw [hdisp]; exact hclear) (by rw [hrun]; exact hor) ?_
    rw [hp, State.withChan_chan_self]
    exact Option.some_ne_none _

end Sys2Proof.Machine
end

section
/-! SUPPORT. The judgements that form a record (R89, R107, R111, R112), each brought to one form: the occurrences
offered first, the stimulus off, the channel in POSTING and the record offered to the Result Queue. -/

namespace Sys2Proof.Machine

/-! ## Occurrences that no counter acts on -/

/-- Where no counter acts on a wrap, what an occurrence does to the link depends on the counters and the link alone. -/
theorem State.offer_link_congr {s t : State} (h : s.countersPassive) (hc : t.counters = s.counters)
    (hl : t.link = s.link) (o : Occurrence) : (t.offer o).link = (s.offer o).link := by
  rcases h with hf | hact
  · rw [State.offer_frozen hf, State.offer_frozen (by rw [hc]; exact hf), hl]
  · have hfold : ∀ (ks : List Counter), (∀ k ∈ ks, k.action = .none) → ∀ u v : State, u.link = v.link →
        (ks.foldl State.wrapEffects u).link = (ks.foldl State.wrapEffects v).link := by
      intro ks
      induction ks with
      | nil => exact fun _ _ _ huv => huv
      | cons k ks ih =>
        intro hks u v huv
        obtain ⟨hk, hks⟩ := List.forall_mem_cons.1 hks
        refine ih hks _ _ ?_
        rw [State.wrapEffects_none hk, State.wrapEffects_none hk]
        exact congrArg (fun l : Link => l.raise .counterOverflow) huv
    have hks : ∀ k ∈ s.wrapping (Counter.onOccurrence s.counters.frozen o), k.action = .none := by
      intro k hk
      obtain ⟨i, rfl, -⟩ := (s.mem_wrapping _ k).1 hk
      exact hact i
    have hwrap : t.wrapping (Counter.onOccurrence t.counters.frozen o) =
        s.wrapping (Counter.onOccurrence s.counters.frozen o) := by
      unfold State.wrapping; rw [hc]
    rw [State.offer_eq, State.countAll_eq, State.offer_eq, State.countAll_eq, hwrap]
    exact hfold _ hks _ _ hl

/-- Such an occurrence may be offered before or after a change of a channel and of the Result Queue. -/
theorem State.offer_commutes {s : State} (h : s.countersPassive) (o : Occurrence) (c : Chan) (x : Channel)
    (q : ResultQueue) :
    ((s.offer o).withChan c x).withResults q = ((s.withChan c x).withResults q).offer o := by
  have hcnt := State.offer_counters_congr (s := s) (t := (s.withChan c x).withResults q) rfl o
  have hlink := State.offer_link_congr (t := (s.withChan c x).withResults q) h rfl rfl o
  rw [State.offer_passive_eq (s := (s.withChan c x).withResults q) h, hlink, ← hcnt, State.offer_passive_eq h]
  rfl

/-- What some occurrences leave, one after another, where no counter acts on a wrap or there are none. -/
theorem foldl_offer_leaves {os : List Occurrence} {s : State} (h : os = [] ∨ s.countersPassive) :
    s.Calm (os.foldl State.offer s) ∧ (os.foldl State.offer s).disp = s.disp ∧
      (os.foldl State.offer s).chans = s.chans ∧ (os.foldl State.offer s).link.watermark = s.link.watermark := by
  rcases h with rfl | h
  · exact ⟨.refl s, rfl, rfl, rfl⟩
  · induction os generalizing s with
    | nil => exact ⟨.refl s, rfl, rfl, rfl⟩
    | cons o os ih =>
      obtain ⟨hcalm, hdisp⟩ := State.offer_passive h o
      obtain ⟨hc, hd, hch, hl⟩ := ih (hcalm.passive h)
      exact ⟨hcalm.trans hc, hd.trans hdisp, hch.trans (s.offer_chans o), hl.trans (s.offer_link_watermark o)⟩

theorem foldl_offer_commutes {os : List Occurrence} {s : State} (h : os = [] ∨ s.countersPassive) (c : Chan)
    (x : Channel) (q : ResultQueue) :
    ((os.foldl State.offer s).withChan c x).withResults q =
      os.foldl State.offer ((s.withChan c x).withResults q) := by
  rcases h with rfl | h
  · rfl
  · induction os generalizing s with
    | nil => rfl
    | cons o os ih =>
      rw [List.foldl_cons, ih ((State.offer_passive h o).1.passive h), State.offer_commutes h]
      rfl

/-! ## The record -/

/-- The record of a MEASURE or CONTACT step's judgement (R90). -/
theorem recordOf_measured {k : Running} (h : k.inst.step.kind ≠ .discharge) (c : Chan) (m : Monitor) (j : Judgement)
    (s : State) : recordOf c k m j s.time = judgedRecord c s k j k.attempt m.resettles m.settleSamples := by
  simp [recordOf, judgedRecord, h]

/-- The record of a DISCHARGE step's dwell (R89, R90). -/
theorem recordOf_discharged {k : Running} (h : k.inst.step.kind = .discharge) (c : Chan) (m : Monitor) (j : Judgement)
    (s : State) : recordOf c k m j s.time = judgedRecord c s k j 1 0 k.inst.step.dwell := by
  simp [recordOf, judgedRecord, h]

theorem resultEvent_judgedRecord (c : Chan) (s : State) (k : Running) (j : Judgement) (a d n : Nat) :
    resultEvent (judgedRecord c s k j a d n) =
      { emitted .result 1 c k.inst with outcome := some (judgedRecord c s k j a d n).outcome } := rfl

/-- The channel in POSTING with the record, its stimulus off (R90). -/
def Channel.posting (x : Channel) (k : Running) (r : ResultRecord) : Channel :=
  { x with running := some { k with phase := .posting r }, stim := { x.stim with on := false } }

/-- A formed record in its channel, offered to the Result Queue (R90, R91). -/
def State.formRecord (s : State) (c : Chan) (k : Running) (r : ResultRecord) : State :=
  (s.withChan c ((s.chan c).posting k r)).offerRecord c k.inst r

theorem State.finish_eq {s : State} {c : Chan} {k : Running} (hk : (s.chan c).running = some k) (j : Judgement) :
    s.finish c k j = s.formRecord c k (recordOf c k (s.chan c).monitor j s.time) := by
  have hk' : ((s.stimulusOff c).chan c).running = some k := by
    rw [State.stimulusOff_chan, if_pos rfl]; exact hk
  unfold State.finish State.formRecord
  simp only
  rw [State.setPhase_running hk', State.stimulusOff_chan, if_pos rfl]
  unfold State.stimulusOff
  rw [State.withChan_withChan]
  rfl

/-- A judgement that asks for no retry forms its record. -/
theorem State.judged_forms {s t : State} {c : Chan} (x : Channel) {k : Running} {j : Judgement}
    (hr : wantsRetry k j = false) (hx : x.running = some k) (hchan : t.chan c = x) (htime : t.time = s.time) :
    t.judged c k j = t.formRecord c k (recordOf c k x.monitor j s.time) := by
  unfold State.judged
  rw [if_neg (by rw [hr]; exact Bool.false_ne_true), State.finish_eq (by rw [hchan]; exact hx), hchan, htime]

theorem wantsRetry_unsettled (k : Running) : wantsRetry k (.bare .unsettled) = false :=
  Bool.eq_false_iff.2 fun h => by
    rcases ((wantsRetry_iff k _).1 h).1 with h | h <;> cases h

/-! ## The commands -/

theorem exec_deadlineExpiry {c : Chan} {v : SampleCode} {s : State} (h : (s.chan c).sampleKind v.toInt = .expire) :
    exec (.deadlineExpiry c v) s = exec (.channelSample c v) s := by
  have hif : s.begin.sampleIf c v.toInt .expire = s.begin.sample c v.toInt := if_pos h
  exact congrArg (fun t : State => Host.Outcome.next t.transmit) hif

theorem exec_dwellComplete {c : Chan} {s : State} {k : Running} (hk : (s.chan c).running = some k)
    (h : (s.chan c).sampleKind 0 = .dwellDone) :
    exec (.dwellComplete c) s = .next (s.begin.finish c k (.bare .done)).closeEvent.transmit := by
  have hif : s.begin.sampleIf c 0 .dwellDone = (s.begin.finish c k (.bare .done)).closeEvent := by
    refine (if_pos h).trans ?_
    have hk' : (s.begin.chan c).running = some k := hk
    have h' : (s.begin.chan c).sampleKind 0 = .dwellDone := h
    unfold State.sample
    simp only [hk', h']
    rfl
  exact congrArg (fun t : State => Host.Outcome.next t.transmit) hif

theorem Monitor.settleSample_kept (m : Monitor) (r : StepRecord) (v : Int) :
    (m.settleSample r v).prescale = m.prescale ∧ (m.settleSample r v).unit = m.unit ∧
      (m.settleSample r v).resettles = m.resettles ∧ (m.settleSample r v).settleSamples = m.settleSamples + 1 := by
  unfold Monitor.settleSample Monitor.bandTest
  split
  · exact ⟨rfl, rfl, rfl, rfl⟩
  · split <;> exact ⟨rfl, rfl, rfl, rfl⟩

/-- A charge that finds both deadline counters at 0 (R107). -/
theorem settlingKind_expire {r : StepRecord} {m : Monitor} {v : Int} (hd : (m.settleSample r v).dwellRemaining ≠ 0)
    (hp : m.prescale = 0) (hu : m.unit = 0) : settlingKind r m v = .expire := by
  obtain ⟨hp', hu', -, -⟩ := m.settleSample_kept r v
  have hcharge : (m.settleSample r v).charge r = none := by
    unfold Monitor.charge
    rw [hp', hu', hp, hu]
    rfl
  unfold settlingKind
  rw [if_neg hd, hcharge]
  rfl

/-- The event of a deadline that expires (R107). -/
theorem exec_expired {c : Chan} {v : SampleCode} {s : State} {k : Running} (hk : (s.chan c).running = some k)
    (hw : (s.chan c).sampleKind v.toInt = .expire) (hkind : k.inst.step.kind ≠ .discharge) :
    exec (.channelSample c v) s = .next ((s.begin.withChan c
      { s.chan c with monitor := (s.chan c).monitor.settleSample k.inst.step v.toInt }).formRecord c k
        (judgedRecord c s k (.bare .unsettled) k.attempt (s.chan c).monitor.resettles
          ((s.chan c).monitor.settleSamples + 1))).closeEvent.transmit := by
  obtain ⟨-, -, hre, hse⟩ := (s.chan c).monitor.settleSample_kept k.inst.step v.toInt
  have hby : s.begin.sampleBy c k v.toInt .expire = (s.begin.withChan c
      { s.chan c with monitor := (s.chan c).monitor.settleSample k.inst.step v.toInt }).judged c k
        (.bare .unsettled) := rfl
  rw [exec_channelSample_kind hk hw, hby, State.judged_forms (s := s) _ (wantsRetry_unsettled k) (by exact hk)
    (State.withChan_chan_self s.begin c _) rfl, recordOf_measured hkind, hre, hse]

/-- The event of an acquisition completed with no retry to take (R112). -/
theorem exec_completed {c : Chan} {v : SampleCode} {s : State} {k : Running} (hk : (s.chan c).running = some k)
    (hw : (s.chan c).sampleKind v.toInt = .complete) (hkind : k.inst.step.kind ≠ .discharge)
    (hno : wantsRetry k (judgeReading k.inst.step ((s.chan c).reading.take v.toInt)) = false) :
    exec (.channelSample c v) s = .next ((s.begin.withChan c
      { s.chan c with reading := (s.chan c).reading.take v.toInt }).formRecord c k
        (judgedRecord c s k (judgeReading k.inst.step ((s.chan c).reading.take v.toInt)) k.attempt
          (s.chan c).monitor.resettles (s.chan c).monitor.settleSamples)).closeEvent.transmit := by
  have hby : s.begin.sampleBy c k v.toInt .complete = (s.begin.withChan c
      { s.chan c with reading := (s.chan c).reading.take v.toInt }).judged c k
        (judgeReading k.inst.step ((s.chan c).reading.take v.toInt)) := rfl
  rw [exec_channelSample_kind hk hw, hby, State.judged_forms (s := s) _ hno (by exact hk)
    (State.withChan_chan_self s.begin c _) rfl, recordOf_measured hkind]

/-- The event of a dwell completed (R89), by either command. -/
theorem exec_dwelt {i : Instr} {c : Chan} {s : State} {k : Running} (hk : (s.chan c).running = some k)
    (hi : i = .dwellComplete c ∨ ∃ v, i = .channelSample c v) (hw : ∀ v, (s.chan c).sampleKind v = .dwellDone)
    (hkind : k.inst.step.kind = .discharge) :
    exec i s = .next ((s.begin.withChan c (s.chan c)).formRecord c k
      (judgedRecord c s k (.bare .done) 1 0 k.inst.step.dwell)).closeEvent.transmit := by
  have hfinish : exec i s = .next (s.begin.finish c k (.bare .done)).closeEvent.transmit := by
    rcases hi with rfl | ⟨v, rfl⟩
    · exact exec_dwellComplete hk (hw 0)
    · have hby : s.begin.sampleBy c k v.toInt .dwellDone = s.begin.finish c k (.bare .done) := rfl
      rw [exec_channelSample_kind hk (hw v.toInt), hby]
  have hrec := recordOf_discharged hkind c (s.chan c).monitor (.bare .done) s
  have hself : s.begin.withChan c (s.chan c) = s.begin := s.begin.withChan_self c
  rw [hfinish, State.finish_eq (s := s.begin) hk, hself, ← hrec]
  rfl

/-- The event of a drift at the resettle limit (R111), with its RESETTLE event. -/
theorem exec_exhausted {c : Chan} {v : SampleCode} {s : State} {k : Running} (hk : (s.chan c).running = some k)
    (hw : (s.chan c).sampleKind v.toInt = .exhaust) (hkind : k.inst.step.kind ≠ .discharge) :
    exec (.channelSample c v) s = .next (((s.begin.withChan c
      { s.chan c with monitor := (s.chan c).monitor.exhaust v.toInt, reading := .empty }).offer
        (emitted .resettle 1 c k.inst)).formRecord c k
        (judgedRecord c s k (.bare .unsettled) k.attempt (s.chan c).monitor.resettles
          (s.chan c).monitor.settleSamples)).closeEvent.transmit := by
  have hby : s.begin.sampleBy c k v.toInt .exhaust = ((s.begin.withChan c
      { s.chan c with monitor := (s.chan c).monitor.exhaust v.toInt, reading := .empty }).offer
        (emitted .resettle 1 c k.inst)).judged c k (.bare .unsettled) := rfl
  have hchan : ((s.begin.withChan c
      { s.chan c with monitor := (s.chan c).monitor.exhaust v.toInt, reading := .empty }).offer
        (emitted .resettle 1 c k.inst)).chan c =
      { s.chan c with monitor := (s.chan c).monitor.exhaust v.toInt, reading := .empty } :=
    (State.offer_chan _ _ c).trans (State.withChan_chan_self _ c _)
  rw [exec_channelSample_kind hk hw, hby, State.judged_forms (s := s) _ (wantsRetry_unsettled k) (by exact hk) hchan
    (State.offer_time _ _), recordOf_measured hkind]
  rfl

/-- The event of a judgement that forms a record, whichever of the four it is. -/
theorem exec_formsRecord {i : Instr} {c : Chan} {s : State} {k : Running} {x : Channel} {before : List Occurrence}
    {rec : ResultRecord} (hk : (s.chan c).running = some k) (h : formsRecord i c s k x before rec) :
    exec i s = .next
      ((before.foldl State.offer (s.begin.withChan c x)).formRecord c k rec).closeEvent.transmit := by
  rcases h with ⟨v, hi, hp, hkind, hd, hpre, hunit, rfl, rfl, rfl⟩ |
    ⟨v, y, hi, hp, hkind, hr, hb, hcount, hno, rfl, rfl, rfl⟩ | ⟨n, hi, hp, hkind, hn, rfl, rfl, rfl⟩ |
    ⟨v, y, rfl, hp, hkind, hr, hb, hlim, rfl, rfl, rfl⟩
  · have hw := (Channel.sampleKind_settling hk hp v.toInt).trans (settlingKind_expire hd hpre hunit)
    have hi : exec i s = exec (.channelSample c v) s := by
      rcases hi with rfl | rfl
      · exact exec_deadlineExpiry hw
      · rfl
    exact hi.trans (exec_expired hk hw hkind)
  · have hw := (Channel.sampleKind_acquiring hk hp v.toInt).trans ((acquiringKind_inBand hr hb _).trans (if_pos hcount))
    have hi : exec i s = exec (.channelSample c v) s := by
      rcases hi with rfl | rfl
      · exact exec_acquisitionComplete hw
      · rfl
    exact hi.trans (exec_completed hk hw hkind (Bool.eq_false_iff.2 fun hc => hno ((wantsRetry_iff k _).1 hc)))
  · exact exec_dwelt hk hi (fun v => (Channel.sampleKind_dwelling hk hp v).trans (if_pos hn)) hkind
  · have hw := (Channel.sampleKind_acquiring hk hp v.toInt).trans
      ((acquiringKind_drift hr hb _).trans (if_neg (Nat.not_lt.2 hlim.ge)))
    exact exec_exhausted hk hw hkind

theorem formsRecord_resultEvent {i : Instr} {c : Chan} {s : State} {k : Running} {x : Channel}
    {before : List Occurrence} {rec : ResultRecord} (h : formsRecord i c s k x before rec) :
    resultEvent rec = { emitted .result 1 c k.inst with outcome := some rec.outcome } := by
  rcases h with ⟨v, -, -, -, -, -, -, -, -, rfl⟩ | ⟨v, y, -, -, -, -, -, -, -, -, -, rfl⟩ |
    ⟨n, -, -, -, -, -, -, rfl⟩ | ⟨v, y, -, -, -, -, -, -, -, -, rfl⟩ <;> exact resultEvent_judgedRecord c s k _ _ _ _

end Sys2Proof.Machine
end

section
/-! The judgements that form a record (R91, R93): the channel waits in POSTING where the Result Queue has no room, and
the record is posted in the same event where it has. -/

namespace Sys2Proof.Machine

/-- With 252 or more records held a formed record waits in its channel (R91). -/
theorem State.formRecord_waits {s : State} {c : Chan} (k : Running) (r : ResultRecord)
    (h : 252 ≤ s.results.records.length) :
    s.formRecord c k r = (s.withChan c ((s.chan c).posting k r)).withResults
      { s.results with waiting := s.results.waiting ++ [c] } := by
  unfold State.formRecord State.offerRecord
  refine if_neg ?_
  unfold State.postRoom
  rw [decide_eq_true_iff]
  exact Nat.not_lt.2 h

/-- With fewer it is posted in the same event (R91, R93). -/
theorem State.formRecord_posts {s : State} {c : Chan} (k : Running) (r : ResultRecord)
    (h : s.results.records.length < 252) :
    s.formRecord c k r = (s.withChan c ((s.chan c).posting k r)).normalPost c k.inst r := by
  unfold State.formRecord State.offerRecord
  refine if_pos ?_
  unfold State.postRoom
  rw [decide_eq_true_iff]
  exact h

/-- The event of a record that waits: nothing but the occurrences, the channel and the waiting post. -/
theorem formRecord_waits_event {s : State} {c : Chan} {k : Running} {x : Channel} {before : List Occurrence}
    (r : ResultRecord) (ht : s.transientsClear) (hb : before = [] ∨ s.countersPassive)
    (hroom : 252 ≤ s.results.records.length) :
    ((before.foldl State.offer (s.begin.withChan c x)).formRecord c k r).closeEvent =
      before.foldl State.offer ((s.begin.withChan c (x.posting k r)).withResults
        { s.results with waiting := s.results.waiting ++ [c] }) := by
  have hb' : before = [] ∨ (s.begin.withChan c x).countersPassive := hb
  obtain ⟨hcalm, hdisp, hchans, -⟩ := foldl_offer_leaves hb'
  have hchan := (State.chan_of_chans_eq hchans c).trans (State.withChan_chan_self s.begin c x)
  have hres : (before.foldl State.offer (s.begin.withChan c x)).results = s.results := hcalm.results
  have hclear : (before.foldl State.offer (s.begin.withChan c x)).transientsClear :=
    ⟨(congrArg Dispatcher.examDue hdisp).trans ht.1, (congrArg RunControl.haltAsked hcalm.run).trans ht.2⟩
  have hform := State.formRecord_waits (s := before.foldl State.offer (s.begin.withChan c x)) (c := c) k r
    (by rw [hres]; exact hroom)
  have hrunning : (((before.foldl State.offer (s.begin.withChan c x)).formRecord c k r).chan c).running ≠ none := by
    rw [hform]
    refine (congrArg Channel.running (State.withChan_chan_self _ c _)).trans_ne (Option.some_ne_none _)
  rw [State.closeEvent_of_running (by rw [hform]; exact hclear) hrunning, hform, hchan, hres,
    foldl_offer_commutes hb', State.withChan_withChan]

/-- What the event of a posted record leaves, where no counter acts on a wrap. -/
theorem formRecord_posts_event {s : State} {c : Chan} {k : Running} {x : Channel} {before : List Occurrence}
    (r : ResultRecord) (ht : s.transientsClear) (hp : s.countersPassive)
    (hroom : s.results.records.length < 252) :
    ∃ t, ((before.foldl State.offer (s.begin.withChan c x)).formRecord c k r).closeEvent = t ∧
      t.results = { s.results with records := s.results.records ++ [r] } ∧ t.time = s.time ∧
      (s.countersStill → t.counters = s.counters) ∧
      (s.dispatchQuiet → t.counters = s.counted (before ++ [resultEvent r])) ∧
      (s.link.watermark ≤ s.results.records.length + 1 → Notice.resultsReady.isIn t.link.pendingSet = true) := by
  obtain ⟨hcalm, hdisp, hchans, hmark⟩ := foldl_offer_leaves (os := before) (s := s.begin.withChan c x) (Or.inr hp)
  have hcount : (before.foldl State.offer (s.begin.withChan c x)).counters = s.counted before :=
    State.counted_congr (s := s.begin.withChan c x) (t := s) rfl before
  generalize hq : before.foldl State.offer (s.begin.withChan c x) = q at *
  have hres : q.results = s.results := hcalm.results
  have hrun : q.run = s.run := hcalm.run
  set f := q.withChan c ((q.chan c).posting k r)
  have hk : (f.chan c).running = some { k with phase := .posting r } :=
    congrArg Channel.running (State.withChan_chan_self q c _)
  have hfp : f.countersPassive := hcalm.passive hp
  have hleaves := State.normalPost_leaves (Or.inl hfp) hk r
  have hroom' : q.results.records.length < 252 := by rw [hres]; exact hroom
  have hask : (f.normalPost c k.inst r).run.haltAsked = false := by
    rw [hleaves.run, (State.offer_passive hfp _).1.run]
    exact (congrArg RunControl.haltAsked hrun).trans ht.2
  have hclosed := State.closed_closeEvent hleaves.calm fun h => by rw [hask] at h; exact Bool.false_ne_true h.1
  refine ⟨_, congrArg State.closeEvent (State.formRecord_posts (c := c) k r hroom'), ?_, ?_, fun hs => ?_,
    fun hd => ?_, fun hw => ?_⟩
  · rw [hclosed.results, hleaves.results]
    exact congrArg (fun q : ResultQueue => { q with records := q.records ++ [r] }) hres
  · rw [State.closeEvent_time, State.normalPost_time]
    exact hcalm.time
  · have hqs : q.counters = s.counters := hcalm.still hs
    have hf : f.countersStill := by
      unfold State.countersStill
      exact (congrArg _ hqs).trans hs
    rw [hclosed.still (by unfold State.countersStill; rw [hleaves.still hf]; exact hf), hleaves.still hf]
    exact hqs
  · have hfd : f.dispatchQuiet := State.dispatchQuiet_of hd (congrArg RunControl.state hrun).trans_ne
      (congrArg Dispatcher.paused hdisp) fun h => (congrArg Dispatcher.window hdisp).trans h
    obtain ⟨hquiet, hcnt⟩ := hleaves.quiet hfd
    rw [hclosed.quiet hquiet, hcnt, State.counted_append]
    refine State.offer_counters_congr ?_ (resultEvent r)
    exact hcount
  · refine (State.evolves_closeEvent _).pending _ (hleaves.pending _ (State.appendRecord_ready r ?_))
    show q.link.watermark ≤ q.results.records.length + 1
    rw [hres, hmark]
    exact hw

/-- Settles O47: the four judgements come to one form (`exec_formsRecord`), whose record then waits or is posted. -/
theorem judgementRecorded : Obligations.JudgementRecorded := by
  unfold Obligations.JudgementRecorded
  refine ⟨fun i c s k x before rec ht hb hk hroom h => ?_, fun i c s k x before rec ht hp hk hroom h => ?_⟩
  · rw [exec_formsRecord hk h, formRecord_waits_event rec ht hb hroom]
    rfl
  · obtain ⟨t, he, hres, htime, hstill, hquiet, hready⟩ :=
      formRecord_posts_event (c := c) (before := before) rec ht hp hroom
    rw [formsRecord_resultEvent h] at hquiet
    refine ⟨t.transmit, (exec_formsRecord hk h).trans (by rw [he]), hres, htime, hstill, hquiet, fun hw => ?_⟩
    rw [State.transmit_pendingSet]
    exact hready hw

end Sys2Proof.Machine
end

section
/-! SUPPORT. READ_RESULTS (R126) and the grants of waiting posts (R92, R127): what a grant does, what stands between two
grants, and the reply. -/

namespace Sys2Proof.Machine

/-! ## One grant -/

/-- A channel taken off the list of waiting posts, as its grant begins (R92). -/
def State.leaveWaiting (s : State) (c : Chan) : State :=
  s.withResults { s.results with waiting := s.results.waiting.filter fun d => decide (d ≠ c) }

/-- The normal post of a grant (R92). -/
def State.grantedPost (s : State) (c : Chan) (i : Instance) (r : ResultRecord) : State :=
  (s.leaveWaiting c).normalPost c i r

/-- A waiting post is granted: its channel is on the list, and fewer than 252 records are held. -/
def State.granted (s : State) (c : Chan) : Prop := c ∈ s.results.waiting ∧ s.results.records.length < 252

theorem State.postRoom_and_iff (s : State) (c : Chan) :
    (s.postRoom && s.results.waiting.contains c) = true ↔ s.granted c := by
  unfold State.postRoom State.granted
  rw [Bool.and_eq_true, decide_eq_true_iff, List.contains_iff_mem, and_comm]
  rfl

theorem State.grantPost_of_not {s : State} {c : Chan} (h : ¬ s.granted c) : s.grantPost c = s := by
  unfold State.grantPost
  exact if_neg fun hc => h ((s.postRoom_and_iff c).1 hc)

/-- A grant is a normal post with the close of an event (R92, R127). -/
theorem State.grantPost_of_granted {s : State} {c : Chan} {k : Running} {r : ResultRecord} (h : s.granted c)
    (hk : (s.chan c).running = some k) (hp : k.phase = .posting r) :
    s.grantPost c = (s.grantedPost c k.inst r).closeEvent := by
  have hfilter : (fun d => !(decide (d = c))) = fun d => decide (d ≠ c) := funext fun d => (decide_not).symm
  unfold State.grantPost State.grantedPost State.leaveWaiting
  rw [if_pos ((s.postRoom_and_iff c).2 h)]
  simp only [hk, hp, hfilter]

/-- Where no post waits nothing is granted. -/
theorem State.not_granted_of_none {s : State} (h : s.results.waiting = []) (c : Chan) : ¬ s.granted c := fun hg => by
  rw [State.granted, h] at hg
  exact List.not_mem_nil hg.1

theorem foldl_grantPost_of_not {cs : List Chan} {s : State} (h : ∀ c, ¬ s.granted c) :
    cs.foldl State.grantPost s = s := by
  induction cs with
  | nil => rfl
  | cons c cs ih => rw [List.foldl_cons, State.grantPost_of_not (h c), ih]

theorem postsMade_of_not {ps : List (Chan × ResultRecord)} {s : State} (h : ∀ c, ¬ s.granted c) :
    postsMade ps s s := by
  induction ps with
  | nil => rfl
  | cons p ps ih => exact ⟨fun hg => absurd hg (h p.1), fun _ => ih⟩

/-! ## Grants where posts are calm -/

theorem State.grantedPost_leaves {s : State} {c : Chan} {k : Running} (h : s.postsCalm)
    (hk : (s.chan c).running = some k) (r : ResultRecord) :
    (s.leaveWaiting c).PostLeaves c k r (s.grantedPost c k.inst r) :=
  State.normalPost_leaves (s := s.leaveWaiting c) h hk r

theorem State.grantedPost_run_state (s : State) (c : Chan) (i : Instance) (r : ResultRecord) :
    (s.grantedPost c i r).run.state = s.run.state := by
  unfold State.grantedPost
  rw [State.normalPost_run_state]
  rfl

/-- What stands before each grant: the event's marks are clear, posts are calm, and every channel of the list that still
waits holds its record. -/
structure State.Granting (s : State) (ps : List (Chan × ResultRecord)) : Prop where
  clear : s.transientsClear
  calm : s.postsCalm
  posting : ∀ p ∈ ps, p.1 ∈ s.results.waiting → ∃ k, (s.chan p.1).running = some k ∧ k.phase = .posting p.2

theorem State.Granting.tail {s : State} {p : Chan × ResultRecord} {ps : List (Chan × ResultRecord)}
    (h : s.Granting (p :: ps)) : s.Granting ps :=
  ⟨h.clear, h.calm, fun q hq => h.posting q (List.mem_cons_of_mem p hq)⟩

/-- A grant at whose close no halt is taken leaves the same standing, and appends its record. -/
theorem State.Granting.grant {s : State} {p : Chan × ResultRecord} {ps : List (Chan × ResultRecord)} {k : Running}
    (h : s.Granting (p :: ps)) (hk : (s.chan p.1).running = some k)
    (hno : ¬ ((s.grantedPost p.1 k.inst p.2).run.haltAsked = true ∧ s.run.state = .active)) :
    (s.grantedPost p.1 k.inst p.2).closeEvent.Granting ps ∧
      (s.grantedPost p.1 k.inst p.2).closeEvent.results =
        { records := s.results.records ++ [p.2], waiting := s.results.waiting.filter fun d => decide (d ≠ p.1) } := by
  have hleaves := State.grantedPost_leaves h.calm hk p.2
  have hclosed := State.closed_closeEvent hleaves.calm (by rw [State.grantedPost_run_state]; exact hno)
  have hres := hclosed.results.trans hleaves.results
  refine ⟨⟨hclosed.clear, hclosed.calm, fun q hq hw => ?_⟩, hres⟩
  rw [hres] at hw
  obtain ⟨hw, hne⟩ := List.mem_filter.1 hw
  obtain ⟨l, hl, hphase⟩ := h.posting q (List.mem_cons_of_mem p hq) hw
  have hq : (s.chan q.1).running ≠ none := by rw [hl]; exact Option.some_ne_none l
  have hpost := hleaves.chan q.1 (of_decide_eq_true hne) hq
  refine ⟨l, ?_, hphase⟩
  rw [hclosed.chans q.1 (by rw [hpost]; exact hq), hpost]
  exact hl

/-- Where no counter acts on a wrap a grant asks for no halt, and still none acts. -/
theorem State.Granting.passive {s : State} {p : Chan × ResultRecord} {ps : List (Chan × ResultRecord)} {k : Running}
    (h : s.Granting (p :: ps)) (hp : s.countersPassive) (hk : (s.chan p.1).running = some k) :
    (s.grantedPost p.1 k.inst p.2).run.haltAsked = false ∧
      (s.grantedPost p.1 k.inst p.2).closeEvent.countersPassive := by
  have hleaves := State.grantedPost_leaves h.calm hk p.2
  have hask : (s.grantedPost p.1 k.inst p.2).run.haltAsked = false := by
    rw [hleaves.run, (State.offer_passive (s := s.leaveWaiting p.1) hp _).1.run]
    exact h.clear.2
  exact ⟨hask, (State.closed_of_unasked hleaves.calm hask).passive (hleaves.passive hp)⟩

/-- The posts of the list granted one after another are what `postsMade` says: a halt empties the list. -/
theorem postsMade_grantPosts {ps : List (Chan × ResultRecord)} {s : State} (h : s.Granting ps)
    (hwf : s.relays.nodes.wf = true) : postsMade ps s ((ps.map Prod.fst).foldl State.grantPost s) := by
  induction ps generalizing s with
  | nil => rfl
  | cons p ps ih =>
    rw [List.map_cons, List.foldl_cons]
    refine ⟨fun hg => ?_, fun hn => ?_⟩
    · obtain ⟨k, hk, hp⟩ := h.posting p (List.mem_cons_self ..) hg.1
      have hleaves := State.grantedPost_leaves h.calm hk p.2
      have hmade := postMade_normalPost (s := s.leaveWaiting p.1) hwf h.clear.1 h.calm hk p.2
      rw [State.grantPost_of_granted hg hk hp]
      refine ⟨k, _, hk, hmade, ?_⟩
      by_cases hh : (s.grantedPost p.1 k.inst p.2).run.haltAsked = true ∧ s.run.state = .active
      · have hact : (s.grantedPost p.1 k.inst p.2).run.state = .active := by
          rw [hleaves.run, State.offer_run_state]; exact hh.2
        have hnone : ∀ c, ¬ (s.grantedPost p.1 k.inst p.2).closeEvent.granted c := by
          refine State.not_granted_of_none ?_
          rw [State.closeEvent_of_asked hh.1 hact, (State.halt_posts _ _).1]
          exact hact
        rw [foldl_grantPost_of_not hnone]
        exact postsMade_of_not hnone
      · have hclosed := State.closed_closeEvent hleaves.calm (by rw [State.grantedPost_run_state]; exact hh)
        exact ih (h.grant hk hh).1 (hclosed.wf (hleaves.wf hwf))
    · rw [State.grantPost_of_not hn]
      exact ih h.tail hwf

/-- Where no counter acts on a wrap the posts are granted, oldest first, while the count is below 252. -/
theorem grantPosts_results {ps : List (Chan × ResultRecord)} {s : State} (h : s.Granting ps) (hp : s.countersPassive)
    (hw : s.results.waiting = ps.map Prod.fst) (hnodup : (ps.map Prod.fst).Nodup) :
    ((ps.map Prod.fst).foldl State.grantPost s).results =
      { records := s.results.records ++ (ps.map Prod.snd).take (252 - s.results.records.length)
        waiting := (ps.map Prod.fst).drop (252 - s.results.records.length) } := by
  induction ps generalizing s with
  | nil =>
    rw [List.map_nil, List.map_nil, List.take_nil, List.append_nil, List.drop_nil]
    exact congrArg (ResultQueue.mk s.results.records) hw
  | cons p ps ih =>
    by_cases hroom : s.results.records.length < 252
    · rw [List.map_cons] at hw hnodup
      obtain ⟨hnot, hnodup⟩ := List.nodup_cons.1 hnodup
      have hg : s.granted p.1 := ⟨by rw [hw]; exact List.mem_cons_self .., hroom⟩
      obtain ⟨k, hk, hphase⟩ := h.posting p (List.mem_cons_self ..) hg.1
      obtain ⟨hask, hpassive⟩ := h.passive hp hk
      obtain ⟨hnext, hres⟩ := h.grant hk fun hc => by rw [hask] at hc; exact Bool.false_ne_true hc.1
      have hleft : (s.results.waiting.filter fun d => decide (d ≠ p.1)) = ps.map Prod.fst := by
        rw [hw, List.filter_cons_of_neg (by simp)]
        exact List.filter_eq_self.2 fun d hd => decide_eq_true fun he => hnot (he ▸ hd)
      have hone : 252 - s.results.records.length = (252 - (s.results.records.length + 1)) + 1 := by omega
      rw [List.map_cons, List.foldl_cons, State.grantPost_of_granted hg hk hphase,
        ih hnext hpassive (by rw [hres]; exact hleft) hnodup, hres, hone]
      simp
    · have hzero : 252 - s.results.records.length = 0 := Nat.sub_eq_zero_of_le (Nat.not_lt.1 hroom)
      rw [foldl_grantPost_of_not fun c hc => hroom hc.2, hzero, List.take_zero, List.append_nil, List.drop_zero, ← hw]

end Sys2Proof.Machine
end

section
/-! READ_RESULTS (R126): the reply, the grants, and the grant at which a HALT counter wraps. -/

namespace Sys2Proof.Machine

/-! ## A grant that halts the run (R139, R154) -/

/-- A matching HALT counter at its wrap asks for a halt (R138, R139). -/
theorem State.offer_asks {s : State} {o : Occurrence} (j : Fin 8) (hf : s.counters.frozen = false)
    (ha : (s.counters.units.get j).action = .halt) (hm : (s.counters.units.get j).matchesOcc o = true)
    (hw : 4294967296 ≤ (s.counters.units.get j).value.toNat + (s.counters.units.get j).amount o.value) :
    (s.offer o).run = { s.run with haltAsked := true } := by
  have hasked : (s.offer o).run.haltAsked = true :=
    (s.countAll_haltAsked _).2 (Or.inr ⟨j, (Counter.onOccurrence_wraps _ o _).2 ⟨⟨hm, hf⟩, hw⟩, ha⟩)
  have hrun := s.countAll_run (Counter.onOccurrence s.counters.frozen o)
  rw [State.offer_eq] at hasked ⊢
  rw [hrun, hasked]

/-- What a post whose RESULT event asks for a halt leaves before the close of its event: no walk is made for its
removals, and the other channels stand. -/
theorem State.normalPost_asking {s : State} {c : Chan} {k : Running} {r : ResultRecord}
    (hk : (s.chan c).running = some k) (hask : (s.offer (resultEvent r)).run = { s.run with haltAsked := true }) :
    (s.normalPost c k.inst r).run = { s.run with haltAsked := true } ∧
      (s.normalPost c k.inst r).results = { s.results with records := s.results.records ++ [r] } ∧
      ∀ d, (s.normalPost c k.inst r).haltPost d = if d = c then none else s.haltPost d := by
  have hrun : (s.posted k.inst r).run = { s.run with haltAsked := true } := (s.posted_run k.inst r).trans hask
  have hmid : (s.posted k.inst r).midExamine = s.posted k.inst r := State.midExamine_of_not fun hd => by
    obtain ⟨-, -, hno⟩ := hd
    rw [hrun] at hno
    exact Bool.false_ne_true hno.symm
  have htime : (s.normalPost c k.inst r).time = s.time := State.normalPost_time s c k.inst r
  rw [State.normalPost_eq, hmid] at htime ⊢
  obtain ⟨hothers, hown⟩ := State.parkOrRelease_chan ((congrArg Channel.running (s.posted_chan k.inst r c)).trans hk)
  refine ⟨(State.parkOrRelease_run _ c _).trans hrun, (State.parkOrRelease_results _ c _).trans (s.posted_results _ r),
    fun d => ?_⟩
  unfold State.haltPost
  rw [htime]
  by_cases hd : d = c
  · rw [if_pos hd, hd]
    rcases hown with hown | hown <;> rw [hown]
    · rfl
    · rfl
  · rw [if_neg hd, hothers d hd, s.posted_chan]

/-- The halt at the close of that event (R153): the records of the other channels follow the granted one. -/
theorem State.halted_normalPost {s : State} {c : Chan} {k : Running} {r : ResultRecord}
    (hk : (s.chan c).running = some k) (hask : (s.offer (resultEvent r)).run = { s.run with haltAsked := true })
    (hact : s.run.state = .active) (hclear : s.run.haltAsked = false) :
    let t := (s.normalPost c k.inst r).closeEvent
    t.run = { s.run with state := .halted .limit } ∧ Notice.runHalted.isIn t.link.pendingSet = true ∧
      t.results = { records := s.results.records ++ r :: allChans.filterMap fun d =>
                      if d = c then none else s.haltPost d
                    waiting := [] } ∧
      (∀ d, (t.chan d).running = none) ∧ t.disp.window = [] := by
  obtain ⟨hrun, hres, hpost⟩ := State.normalPost_asking hk hask
  generalize s.normalPost c k.inst r = n at *
  have hactive : n.run.state = .active := by rw [hrun]; exact hact
  rw [State.closeEvent_of_asked (by rw [hrun]) hactive]
  set m := n.withRun { n.run with haltAsked := false }
  have hm : m.run.state = .active := hactive
  obtain ⟨-, hwin, hchan⟩ := State.halt_quiet hm .limit
  have hposts : m.haltPost = fun d => if d = c then none else s.haltPost d := funext hpost
  have hrecords : m.results.records = s.results.records ++ [r] := congrArg ResultQueue.records hres
  refine ⟨?_, (State.halt_notices hm .limit).1, ?_, hchan, hwin⟩
  · have hback : m.run = { s.run with haltAsked := false } := by
      show { n.run with haltAsked := false } = _
      rw [hrun]
    rw [State.halt_run hm, hback, ← hclear]
  · rw [(State.halt_posts hm .limit).1, hposts, hrecords, List.append_assoc]
    rfl

/-! ## The request (R126) -/

/-- The oldest `n` records gone (R126, step 2), or all of them. -/
def State.taking (s : State) (n : Nat) : State :=
  s.withResults { s.results with records := s.results.records.drop n }

theorem State.testResultsReady_link (s : State) :
    s.testResultsReady = s.withLink s.testResultsReady.link ∧
      ∀ k : Notice, k.isIn s.testResultsReady.link.pendingSet = true ↔
        k.isIn s.link.pendingSet = true ∨ (k = .resultsReady ∧ s.link.watermark ≤ s.results.records.length) := by
  unfold State.testResultsReady State.resultsReadyHolds
  split
  · next h => exact ⟨rfl, fun k => by rw [State.isIn_raise]; simp [of_decide_eq_true h]⟩
  · next h => exact ⟨rfl, fun k => by simp at h; simp; omega⟩

theorem State.removeRecords_taken (s : State) (n : Nat) :
    s.removeRecords (s.results.records.take n).length = s.taking n := by
  unfold State.removeRecords State.taking
  rw [List.length_take]
  rcases le_total n s.results.records.length with h | h
  · rw [Nat.min_eq_left h]
  · rw [Nat.min_eq_right h, List.drop_length, List.drop_of_length_le h]

theorem serveReadResults_one (x : Byte) (s : State) :
    let n := max 1 (min 32 x.toNat)
    let u := (s.taking n).grantPosts
    serveReadResults [x] s = accept u.testResultsReady (BitVec.ofNat 8 (s.results.records.take n).length ::
      leBytes 2 u.results.records.length ++ (s.results.records.take n).flatMap encodeResult) := by
  have hn : clampNat 1 Config.maxRecordsPerReply x.toNat = max 1 (min 32 x.toNat) := clampNat_eq (by decide) _
  unfold serveReadResults
  simp only [oneByte, hn, s.removeRecords_taken, State.testResultsReady_results]
  rfl

/-- READ_RESULTS of one byte: the records removed, the grants made, the watermark test, and the reply with the count
after that. -/
theorem exec_readResults (tag x : Byte) {s : State} (hopen : s.linkOpen) :
    let n := max 1 (min 32 x.toNat)
    let u := (s.begin.taking n).grantPosts
    ∃ t, exec (.readResults tag [x]) s = .next t ∧ t = u.withLink t.link ∧ u.pendingKept t ∧
      (Notice.resultsReady.isIn t.link.pendingSet = true ↔
        Notice.resultsReady.isIn u.link.pendingSet = true ∨ s.link.watermark ≤ u.results.records.length) ∧
      t.hasReply 0xC0 tag .ok (BitVec.ofNat 8 (s.results.records.take n).length ::
        leBytes 2 u.results.records.length ++ (s.results.records.take n).flatMap encodeResult) none := by
  intro n u
  have hserve : handle .readResults [x] s.begin = accept u.testResultsReady
      (BitVec.ofNat 8 (s.results.records.take n).length :: leBytes 2 u.results.records.length ++
        (s.results.records.take n).flatMap encodeResult) := serveReadResults_one x s.begin
  obtain ⟨t, he, ht, hpend, hreply⟩ := exec_accepted (r := .readResults) (tag := tag) (p := [x]) (by simp) hopen hserve
  obtain ⟨hlink, hin⟩ := u.testResultsReady_link
  have hmark : u.link.watermark = s.link.watermark := State.grantPosts_link_watermark _
  refine ⟨t, he, ?_, fun k hk => ?_, ?_, hreply⟩
  · rw [hlink] at ht; exact ht
  · rw [hpend]; exact (hin k).2 (Or.inl hk)
  · rw [hpend, hin, hmark, and_iff_right rfl]

/-! ## The grants from the list of waiting posts -/

/-- The channels of the list with the records they hold. -/
theorem State.granting_zip {s : State} {n : Nat} {recs : List ResultRecord} (ht : s.transientsClear)
    (hc : s.postsCalm) (h : List.Forall₂ (fun c rec => ∃ k, (s.chan c).running = some k ∧ k.phase = .posting rec)
      s.results.waiting recs) : (s.begin.taking n).Granting (s.results.waiting.zip recs) :=
  ⟨ht, hc, fun _ hp _ => (List.forall₂_iff_zip.1 h).2 hp⟩

theorem State.grantPosts_of_none {s : State} (h : s.results.waiting = []) : s.grantPosts = s := by
  unfold State.grantPosts
  rw [h]
  rfl

/-- What the grants leave in the Result Queue where no counter acts on a wrap. -/
theorem State.grantPosts_taking {s : State} {n : Nat} {recs : List ResultRecord}
    (hg : (s.begin.taking n).Granting (s.results.waiting.zip recs)) (hp : s.countersPassive)
    (hnodup : s.results.waiting.Nodup) (hlen : s.results.waiting.length = recs.length) :
    let left := s.results.records.drop n
    let granted := min recs.length (252 - left.length)
    (s.begin.taking n).grantPosts.results =
      { records := left ++ recs.take granted, waiting := s.results.waiting.drop granted } := by
  intro left granted
  have hfst : (s.results.waiting.zip recs).map Prod.fst = s.results.waiting := List.map_fst_zip hlen.le
  have hsnd : (s.results.waiting.zip recs).map Prod.snd = recs := List.map_snd_zip hlen.ge
  have hres := grantPosts_results hg hp hfst.symm (by rw [hfst]; exact hnodup)
  rw [hfst, hsnd] at hres
  have htake : recs.take (252 - left.length) = recs.take granted := by
    rw [List.take_eq_take_min, Nat.min_comm]
  have hdrop : s.results.waiting.drop (252 - left.length) = s.results.waiting.drop granted := by
    rw [List.drop_eq_drop_min, hlen, Nat.min_comm]
  rw [← htake, ← hdrop]
  exact hres

/-- The first grant's RESULT event wraps a HALT counter: the run halts, and nothing more is granted (R127, R154). -/
theorem State.grantPosts_halted {s : State} {n : Nat} {c : Chan} {cs : List Chan} {r : ResultRecord} {k : Running}
    (hw : s.results.waiting = c :: cs) (hroom : (s.results.records.drop n).length < 252)
    (hk : (s.chan c).running = some k) (hp : k.phase = .posting r) (hact : s.run.state = .active)
    (hclear : s.run.haltAsked = false) (hask : (s.offer (resultEvent r)).run = { s.run with haltAsked := true }) :
    let u := (s.begin.taking n).grantPosts
    u.run = { s.run with state := .halted .limit } ∧ Notice.runHalted.isIn u.link.pendingSet = true ∧
      u.results = { records := s.results.records.drop n ++ r :: allChans.filterMap fun d =>
                      if d = c then none else s.haltPost d
                    waiting := [] } ∧
      (∀ d, (u.chan d).running = none) ∧ u.disp.window = [] := by
  intro u
  set q := (s.begin.taking n).leaveWaiting c
  have hgranted : (s.begin.taking n).granted c :=
    ⟨show c ∈ s.results.waiting by rw [hw]; exact List.mem_cons_self .., hroom⟩
  have hfirst : (s.begin.taking n).grantPost c = (q.normalPost c k.inst r).closeEvent :=
    State.grantPost_of_granted hgranted hk hp
  have hasked : (q.offer (resultEvent r)).run = { q.run with haltAsked := true } :=
    (State.offer_run_congr (s := q) (t := s) rfl rfl _).trans hask
  have hhalted := State.halted_normalPost (s := q) hk hasked hact hclear
  have hu : u = (q.normalPost c k.inst r).closeEvent := by
    have hnone := State.not_granted_of_none (congrArg ResultQueue.waiting hhalted.2.2.1)
    have hfold : u = (c :: cs).foldl State.grantPost (s.begin.taking n) :=
      congrArg (fun l => List.foldl State.grantPost (s.begin.taking n) l) hw
    rw [hfold, List.foldl_cons, hfirst]
    exact foldl_grantPost_of_not hnone
  rw [hu]
  exact hhalted

/-- Settles O49: the reply of the request once (`exec_readResults`), then the grants by what stands between two of them
(`State.Granting`), and the first grant's halt. -/
theorem readResultsServed : Obligations.ReadResultsServed := by
  unfold Obligations.ReadResultsServed
  intro tag p s hp hopen
  refine ⟨fun hlen => ?_, ?_⟩
  · exact exec_refused (r := .readResults) hp hopen (by simp [handle, serveReadResults, oneByte_ne hlen])
  rintro x rfl taken left
  obtain ⟨t, he, ht, hkept, hready, hreply⟩ := exec_readResults tag x hopen
  refine ⟨fun hnone => ?_, fun recs hnodup hforall hclear => ?_⟩
  · rw [State.grantPosts_of_none (s := s.begin.taking _) hnone] at ht hready hreply
    exact ⟨t, he, ht, hreply, hready⟩
  intro granted taking
  refine ⟨fun hpass => ?_, fun hcalm hwf => ?_, ?_⟩
  · have hres := State.grantPosts_taking (n := max 1 (min 32 x.toNat))
      (State.granting_zip hclear (Or.inl hpass) hforall) hpass hnodup hforall.length_eq
    have hcount : (left ++ recs.take granted).length = left.length + granted := by
      rw [List.length_append, List.length_take, Nat.min_eq_left (Nat.min_le_left _ _)]
    rw [hres] at hreply
    refine ⟨t, he, ?_, ?_, ?_⟩
    · rw [ht]; exact congrArg ResultQueue.records hres
    · rw [ht]; exact congrArg ResultQueue.waiting hres
    · rw [← hcount]; exact hreply
  · have hmade := postsMade_grantPosts (State.granting_zip (n := max 1 (min 32 x.toNat)) hclear hcalm hforall) hwf
    rw [List.map_fst_zip hforall.length_eq.le] at hmade
    exact ⟨_, t, hmade, he, ht, hkept, fun hw => hready.2 (Or.inr hw), hreply⟩
  · rintro c cs rec rest hwait rfl hroom hact hfrozen ⟨j, hhalt, hmatch, hwrap⟩ records
    rw [hwait] at hforall
    obtain ⟨⟨k, hk, hphase⟩, -⟩ := List.forall₂_cons.1 hforall
    obtain ⟨hrun, hnotice, hres, hchan, hwin⟩ := State.grantPosts_halted hwait hroom hk hphase hact hclear.2
      (State.offer_asks j hfrozen hhalt hmatch hwrap)
    rw [hres] at hreply
    exact ⟨t, he, by rw [ht]; exact hrun, hkept _ hnotice, by rw [ht]; exact hres, by rw [ht]; exact hchan,
      by rw [ht]; exact hwin, hreply⟩

end Sys2Proof.Machine
end

section
/-! The stages of a reading (R117 to R120): O44. -/

namespace Sys2Proof.Machine

/-! ## Stage 1: the average (R117) -/

theorem average_zero (sum : Int) : average 0 sum = sum := rfl

theorem average_eq {k : Nat} (hk : k ≠ 0) (sum : Int) : average k sum = (sum + 2 ^ (k - 1)) / 2 ^ k := if_neg hk

theorem two_pow_half {k : Nat} (hk : k ≠ 0) : (2 : Int) ^ k = 2 * 2 ^ (k - 1) := by
  rw [mul_comm, pow_sub_one_mul hk]

/-- The average is the floor of the sum with half a divisor added: the nearest integer, a half going up. -/
theorem average_rounds {k : Nat} (hk : k ≠ 0) (sum : Int) :
    average k sum * 2 ^ k ≤ sum + 2 ^ (k - 1) ∧ sum + 2 ^ (k - 1) < (average k sum + 1) * 2 ^ k := by
  have hpos : (0 : Int) < 2 ^ k := by positivity
  rw [average_eq hk]
  exact ⟨Int.ediv_mul_le _ hpos.ne', Int.lt_ediv_add_one_mul_self _ hpos⟩

/-- Rounding crosses no integer bound: a sum of 2^k samples in a range has its average there. -/
theorem average_mem {k : Nat} {sum lo hi : Int} (hlo : lo * 2 ^ k ≤ sum) (hhi : sum ≤ hi * 2 ^ k) :
    lo ≤ average k sum ∧ average k sum ≤ hi := by
  by_cases hk : k = 0
  · subst hk
    rw [average_zero]
    exact ⟨by simpa using hlo, by simpa using hhi⟩
  have hpos : (0 : Int) < 2 ^ k := by positivity
  have hhalf : (0 : Int) < 2 ^ (k - 1) := by positivity
  have htwo := two_pow_half hk
  rw [average_eq hk]
  constructor
  · rw [Int.le_ediv_iff_mul_le hpos]
    omega
  · rw [← Int.lt_add_one_iff, Int.ediv_lt_iff_lt_mul hpos, add_mul]
    omega

/-! ## Stage 3: the scaled value (R119) -/

theorem scaled_rounds (d : Int) (scale e : Nat) :
    scaled d scale e * 16384 ≤ d * scale * 2 ^ e + 8192 ∧
      d * scale * 2 ^ e + 8192 < (scaled d scale e + 1) * 16384 :=
  ⟨Int.ediv_mul_le _ (by decide), Int.lt_ediv_add_one_mul_self _ (by decide)⟩

@[simp] theorem scaled_scale_zero (d : Int) (e : Nat) : scaled d 0 e = 0 := by simp [scaled]

/-- The unit gain: scale 16384 with exponent 0. -/
theorem scaled_unit (d : Int) : scaled d 16384 0 = d := by
  have hround := scaled_rounds d 16384 0
  omega

/-- The product of stage 3 is largest in magnitude at the ends of its three factors' ranges. -/
theorem natAbs_product_le {d : Int} {scale e : Nat} (hd : d.natAbs ≤ 1048575) (hs : scale ≤ 65535) (he : e ≤ 7) :
    (d * scale * 2 ^ e).natAbs ≤ 8795950416000 :=
  calc (d * scale * 2 ^ e).natAbs
      = d.natAbs * scale * 2 ^ e := by simp [Int.natAbs_mul, Int.natAbs_pow]
    _ ≤ 1048575 * 65535 * 2 ^ 7 := by gcongr; decide

/-! ## Stage 4: the reading and its clamped mark (R120) -/

theorem fitReading_above {u : Int} (h : 8388607 < u) : fitReading u = (8388607, true) := if_pos h

theorem fitReading_below {u : Int} (h : u < -8388608) : fitReading u = (-8388608, true) :=
  (if_neg (show ¬ 8388607 < u by omega)).trans (if_pos h)

theorem fitReading_within {u : Int} (hlo : -8388608 ≤ u) (hhi : u ≤ 8388607) : fitReading u = (u, false) :=
  (if_neg (show ¬ 8388607 < u by omega)).trans (if_neg (show ¬ u < -8388608 by omega))

/-- Settles O44: each stage by its rounding, its bounds, and the three ranges of the fit. -/
theorem readingStages : Obligations.ReadingStages := by
  unfold Obligations.ReadingStages
  refine ⟨⟨fun k sum _ => ⟨?_, fun hk => average_rounds (Nat.one_le_iff_ne_zero.1 hk) sum, average_mem⟩,
    fun d scale e => ⟨(scaled_rounds d scale e).1, (scaled_rounds d scale e).2, ?_, ?_, ?_⟩,
    fun a null _ _ _ _ => ⟨by omega, by omega⟩, fun _ _ => rfl⟩,
    fun u => ⟨fitReading_above, fitReading_below, fitReading_within⟩⟩
  · rintro rfl
    exact average_zero sum
  · rintro rfl
    exact scaled_scale_zero d e
  · rintro rfl rfl
    exact scaled_unit d
  · exact fun hlo hhi hs he => natAbs_product_le (by omega) hs he

end Sys2Proof.Machine
end

section
/-! The judgement of a reading (R121): O45. -/

namespace Sys2Proof.Machine

/-- The three ways a reading is made: held at the top, held at the bottom, or unclamped within the range. -/
theorem computeReading_cases (r : StepRecord) (sum : Int) :
    computeReading r sum = (8388607, true) ∨ computeReading r sum = (-8388608, true) ∨
      ∃ x, -8388608 ≤ x ∧ x ≤ 8388607 ∧ computeReading r sum = (x, false) := by
  set u := scaled (average r.acquireExp sum - r.null) r.scale r.scaleExp
  rcases lt_or_ge 8388607 u with habove | hhi
  · exact Or.inl (fitReading_above habove)
  rcases lt_or_ge u (-8388608) with hbelow | hlo
  · exact Or.inr (Or.inl (fitReading_below hbelow))
  · exact Or.inr (Or.inr ⟨u, hlo, hhi, fitReading_within hlo hhi⟩)

theorem computeReading_mem (r : StepRecord) (sum : Int) :
    -8388608 ≤ (computeReading r sum).1 ∧ (computeReading r sum).1 ≤ 8388607 := by
  rcases computeReading_cases r sum with h | h | ⟨x, hlo, hhi, h⟩ <;> rw [h]
  · decide
  · decide
  · exact ⟨hlo, hhi⟩

theorem computeReading_scale_zero {r : StepRecord} (h : r.scale = 0) (sum : Int) : computeReading r sum = (0, false) := by
  rw [computeReading, h, scaled_scale_zero]
  exact fitReading_within (by decide) (by decide)

theorem judgeReading_overrange (r : StepRecord) {u : ReadingUnit} (h : u.overrange = true) :
    judgeReading r u = .bare .overrange := if_pos h

theorem judgeReading_clampedHigh {r : StepRecord} {u : ReadingUnit} (ho : u.overrange = false)
    (h : computeReading r u.sum = (8388607, true)) :
    judgeReading r u = { outcome := .high, reading := some 8388607, clamped := true } := by
  simp [judgeReading, ho, h, Config.readingMax]

theorem judgeReading_clampedLow {r : StepRecord} {u : ReadingUnit} (ho : u.overrange = false)
    (h : computeReading r u.sum = (-8388608, true)) :
    judgeReading r u = { outcome := .low, reading := some (-8388608), clamped := true } := by
  simp [judgeReading, ho, h, Config.readingMax, Config.readingMin]

/-- An unclamped reading is judged against the limits alone, also at the ends of the range. -/
theorem judgeReading_unclamped {r : StepRecord} {u : ReadingUnit} {x : Int} (ho : u.overrange = false)
    (h : computeReading r u.sum = (x, false)) :
    judgeReading r u =
      { outcome := if x < r.lo then .low else if r.hi < x then .high else .pass, reading := some x, clamped := false } := by
  simp only [judgeReading, ho, h, Bool.false_and, Bool.false_eq_true, if_false]
  split_ifs <;> rfl

/-- The reading handed on is the computed one, and it is handed on unless the acquisition is overranged. -/
theorem judgeReading_reading (r : StepRecord) (u : ReadingUnit) :
    (judgeReading r u).reading = if u.overrange = true then none else some (computeReading r u.sum).1 := by
  cases ho : u.overrange with
  | true => rw [judgeReading_overrange r ho]; rfl
  | false =>
    rcases computeReading_cases r u.sum with h | h | ⟨x, -, -, h⟩
    · rw [judgeReading_clampedHigh ho h, h]; rfl
    · rw [judgeReading_clampedLow ho h, h]; rfl
    · rw [judgeReading_unclamped ho h, h]; rfl

/-- What passes: an acquisition without the overrange mark whose unclamped reading lies within the limits. -/
theorem judgeReading_pass_iff (r : StepRecord) (u : ReadingUnit) :
    (judgeReading r u).outcome = .pass ↔
      u.overrange = false ∧ (computeReading r u.sum).2 = false ∧
        r.lo ≤ (computeReading r u.sum).1 ∧ (computeReading r u.sum).1 ≤ r.hi := by
  cases ho : u.overrange with
  | true => simp [judgeReading_overrange r ho, Judgement.bare]
  | false =>
    rcases computeReading_cases r u.sum with h | h | ⟨x, -, -, h⟩
    · simp [judgeReading_clampedHigh ho h, h]
    · simp [judgeReading_clampedLow ho h, h]
    · rw [judgeReading_unclamped ho h, h]
      split_ifs with hlow hhigh <;> simp <;> omega

/-- A clamped mark is handed on as computed, and only with a reading. -/
theorem judgeReading_clamped (r : StepRecord) {u : ReadingUnit} (ho : u.overrange = false) :
    (judgeReading r u).clamped = (computeReading r u.sum).2 := by
  rcases computeReading_cases r u.sum with h | h | ⟨x, -, -, h⟩
  · rw [judgeReading_clampedHigh ho h, h]
  · rw [judgeReading_clampedLow ho h, h]
  · rw [judgeReading_unclamped ho h, h]

theorem wantsRetry_overrange (k : Running) : wantsRetry k (.bare .overrange) = false :=
  Bool.eq_false_iff.2 fun h => by
    rcases ((wantsRetry_iff k _).1 h).1 with h | h <;> cases h

/-- Settles O45: the table is the definition's, and each consequence goes through what a judgement hands on and what
passes (`judgeReading_pass_iff`). -/
theorem readingJudged : Obligations.ReadingJudged := by
  unfold Obligations.ReadingJudged
  intro r u m clamped j
  have hpass : j.outcome = .pass ↔ u.overrange = false ∧ clamped = false ∧ r.lo ≤ m ∧ m ≤ r.hi :=
    judgeReading_pass_iff r u
  obtain ⟨hmin, hmax⟩ : -8388608 ≤ m ∧ m ≤ 8388607 := computeReading_mem r u.sum
  refine ⟨?table, fun x hx => ?range, fun h => ?unclamped, fun hcross h => ?crossed,
    fun hlo hhi ho hc => ?widest, fun hzero => ?zero, fun ho k => ?overranged⟩
  case table =>
    simp only [j, judgeReading, Bool.and_eq_true, decide_eq_true_eq]
    rfl
  case range =>
    have hread : j.reading = if u.overrange = true then none else some m := judgeReading_reading r u
    rw [hread] at hx
    split at hx
    · cases hx
    · cases hx
      exact ⟨hmin, hmax⟩
  case unclamped =>
    obtain ⟨ho, hc, -, -⟩ := hpass.1 h
    exact (judgeReading_clamped r ho).trans hc
  case crossed =>
    obtain ⟨-, -, hlo, hhi⟩ := hpass.1 h
    omega
  case widest => exact hpass.2 ⟨ho, hc, hlo ▸ hmin, hhi ▸ hmax⟩
  case zero => exact Prod.mk.inj (computeReading_scale_zero hzero u.sum)
  case overranged =>
    rw [show j = .bare .overrange from judgeReading_overrange r ho]
    exact wantsRetry_overrange k

end Sys2Proof.Machine
end

section
/-! The requests of the Outcome Counters (R142, R144 to R146): O52. -/

namespace Sys2Proof.Machine

/-! ## The codes of a counter's settings (R179) -/

@[simp] theorem eventOf_eventCode (e : CounterEvent) : eventOf (eventCode e) = some e := by cases e <;> decide

theorem eventCode_of_eventOf {c : Byte} {e : CounterEvent} (h : eventOf c = some e) : eventCode e = c := by
  simpa using List.find?_some h

theorem eventCode_le (e : CounterEvent) : (eventCode e).toNat ≤ 9 := by cases e <;> decide

/-- The level events are the last four of the table. -/
theorem CounterEvent.isLevel_iff_eventCode (e : CounterEvent) : e.isLevel = true ↔ 6 ≤ (eventCode e).toNat := by
  cases e <;> decide

theorem exists_eventOf {c : Byte} (h : c.toNat ≤ 9) : ∃ e, eventOf c = some e := by
  have hcodes : ∀ n : Fin 10, ∃ e, eventCode e = BitVec.ofNat 8 n.val := fun n =>
    ⟨allEvents.get n, by fin_cases n <;> rfl⟩
  obtain ⟨e, he⟩ := hcodes ⟨c.toNat, by omega⟩
  rw [BitVec.ofNat_toNat, BitVec.setWidth_eq] at he
  exact ⟨e, he ▸ eventOf_eventCode e⟩

@[simp] theorem actionOf_actionCode (a : CounterAction) : actionOf (actionCode a) = some a := by cases a <;> decide

theorem actionCode_of_actionOf {c : Byte} {a : CounterAction} (h : actionOf c = some a) : actionCode a = c := by
  simpa using List.find?_some h

theorem actionCode_le (a : CounterAction) : (actionCode a).toNat ≤ 3 := by cases a <;> decide

theorem exists_actionOf {c : Byte} (h : c.toNat ≤ 3) : ∃ a, actionOf c = some a := by
  have hcodes : ∀ n : Fin 4, ∃ a, actionCode a = BitVec.ofNat 8 n.val := fun n =>
    ⟨[CounterAction.none, .freeze, .retire, .halt].get n, by fin_cases n <;> rfl⟩
  obtain ⟨a, ha⟩ := hcodes ⟨c.toNat, by omega⟩
  rw [BitVec.ofNat_toNat, BitVec.setWidth_eq] at ha
  exact ⟨a, ha ▸ actionOf_actionCode a⟩

theorem twoWay_of_le {c : Byte} (h : c.toNat ≤ 1) : twoWay c = some (decide (c = 1)) := by
  obtain rfl | rfl : c = 0 ∨ c = 1 := by bv_omega
  · rfl
  · rfl

theorem twoWay_of_gt {c : Byte} (h : 1 < c.toNat) : twoWay c = none := by
  unfold twoWay
  rw [if_neg (by bv_omega), if_neg (by bv_omega)]

theorem twoWay_some {c : Byte} {b : Bool} (h : twoWay c = some b) : c.toNat ≤ 1 ∧ b = decide (c = 1) := by
  by_cases hc : c.toNat ≤ 1
  · rw [twoWay_of_le hc] at h
    exact ⟨hc, (Option.some.inj h).symm⟩
  · rw [twoWay_of_gt (by omega)] at h
    cases h

theorem flagByte_decide {c : Byte} (h : c.toNat ≤ 1) : flagByte (decide (c = 1)) = c := by
  obtain rfl | rfl : c = 0 ∨ c = 1 := by bv_omega
  · rfl
  · rfl

theorem groupOf_of_le {c : Byte} (h : c.toNat ≤ 16) : groupOf c = some (if c = 16 then none else some c.toNat) := by
  unfold groupOf
  by_cases hc : c = 16
  · subst hc; rfl
  · rw [if_pos (by bv_omega), if_neg hc]

theorem groupOf_of_gt {c : Byte} (h : 16 < c.toNat) : groupOf c = none := by
  unfold groupOf
  rw [if_neg (by omega), if_neg (by bv_omega)]

theorem groupOf_some {c : Byte} {g : Option Nat} (h : groupOf c = some g) :
    c.toNat ≤ 16 ∧ g = if c = 16 then none else some c.toNat := by
  by_cases hc : c.toNat ≤ 16
  · rw [groupOf_of_le hc] at h
    exact ⟨hc, (Option.some.inj h).symm⟩
  · rw [groupOf_of_gt (by omega)] at h
    cases h

theorem groupCode_read (c : Byte) : groupCode (if c = 16 then none else some c.toNat) = c := by
  by_cases hc : c = 16
  · rw [if_pos hc, hc]; rfl
  · rw [if_neg hc]; simp [groupCode, byte]

theorem exists_counterNamed {n : Nat} (h : n ≤ 7) : ∃ i, allEight.find? (fun i => i.val = n) = some i := by
  rw [← Option.isSome_iff_exists, List.find?_isSome]
  exact ⟨⟨n, by omega⟩, mem_allEight _, by simp⟩

/-! ## SET_COUNTER's check and what it stores (R142) -/

/-- A code or a mask bit of SET_COUNTER's payload names nothing, or edge is asked for an occurrence event (R142). -/
def CounterOperands.outOfRange (o : CounterOperands) : Prop :=
  7 < o.index.toNat ∨ 9 < o.event.toNat ∨ 15 < o.chMask.toNat ∨ 511 < o.siteMask ∨ 16 < o.group.toNat ∨
    127 < o.outcomeMask.toNat ∨ 1 < o.invert.toNat ∨ 1 < o.edge.toNat ∨ 3 < o.action.toNat ∨
    (o.edge = 1 ∧ o.event.toNat < 6)

/-- Counter `i` with the settings and the preload of SET_COUNTER's payload, its flag and edge memory clear (R142). -/
structure CounterOperands.Stored (o : CounterOperands) (i : Fin 8) (k : Counter) : Prop where
  index : i.val = o.index.toNat
  event : eventCode k.event = o.event
  chMask : k.chMask.toNat = o.chMask.toNat
  siteMask : k.siteMask.toNat = o.siteMask
  group : k.group = if o.group = 16 then none else some o.group.toNat
  outcomeMask : k.outcomeMask.toNat = o.outcomeMask.toNat
  threshold : k.threshold = o.threshold.toNat
  invert : k.invert = decide (o.invert = 1)
  edge : k.edge = decide (o.edge = 1)
  action : actionCode k.action = o.action
  value : k.value = BitVec.ofNat 32 o.preload
  overflow : k.overflow = false
  edgeHeld : k.edgeHeld = false

/-- What SET_COUNTER's check passes names every setting, and is stored as it came. -/
theorem counterOf_eq_some {o : CounterOperands} {i : Fin 8} {k : Counter} (h : counterOf o = some (i, k)) :
    ¬ o.outOfRange ∧ o.Stored i k := by
  unfold counterOf at h
  split at h
  next j e g v d a hj he hg hv hd ha =>
    split at h
    · cases h
    next hmask =>
      split at h
      · cases h
      next hedge =>
        simp only [Bool.or_eq_true, decide_eq_true_eq, not_or, not_le] at hmask
        obtain ⟨⟨hch, hsite⟩, hout⟩ := hmask
        have hindex : j.val = o.index.toNat := by simpa using List.find?_some hj
        have hevent := eventCode_of_eventOf he
        have haction := actionCode_of_actionOf ha
        obtain ⟨hg16, rfl⟩ := groupOf_some hg
        obtain ⟨hv1, rfl⟩ := twoWay_some hv
        obtain ⟨hd1, rfl⟩ := twoWay_some hd
        have hlevel : o.edge = 1 → 6 ≤ o.event.toNat := by
          intro h1
          rw [← hevent, ← CounterEvent.isLevel_iff_eventCode]
          simpa [h1] using hedge
        have he9 : o.event.toNat ≤ 9 := hevent ▸ eventCode_le e
        have ha3 : o.action.toNat ≤ 3 := haction ▸ actionCode_le a
        cases h
        constructor
        · simp only [CounterOperands.outOfRange, not_or, not_lt]
          refine ⟨by omega, he9, by omega, by omega, hg16, by omega, hv1, hd1, ha3, fun ⟨h1, h6⟩ => ?_⟩
          have := hlevel h1
          omega
        · exact
            { index := hindex, event := hevent, group := rfl, threshold := rfl, invert := rfl, edge := rfl,
              action := haction, value := rfl, overflow := rfl, edgeHeld := rfl
              chMask := (BitVec.toNat_setWidth ..).trans (Nat.mod_eq_of_lt hch)
              siteMask := (BitVec.toNat_ofNat ..).trans (Nat.mod_eq_of_lt hsite)
              outcomeMask := (BitVec.toNat_setWidth ..).trans (Nat.mod_eq_of_lt hout) }
  · cases h

/-- Whatever SET_COUNTER's check refuses is out of range. -/
theorem counterOf_eq_none {o : CounterOperands} (h : counterOf o = none) : o.outOfRange := by
  by_contra hin
  simp only [CounterOperands.outOfRange, not_or, not_and, not_lt] at hin
  obtain ⟨hi, he, hch, hsite, hg, hout, hv, hd, ha, hedge⟩ := hin
  obtain ⟨i, hi⟩ := exists_counterNamed hi
  obtain ⟨e, he⟩ := exists_eventOf he
  obtain ⟨a, ha⟩ := exists_actionOf ha
  have hlevel : (decide (o.edge = 1) && !e.isLevel) = false := by
    by_cases h1 : o.edge = 1
    · rw [e.isLevel_iff_eventCode.2 (eventCode_of_eventOf he ▸ hedge h1), Bool.not_true, Bool.and_false]
    · rw [decide_eq_false h1, Bool.false_and]
  unfold counterOf at h
  simp only [hi, he, ha, groupOf_of_le hg, twoWay_of_le hv, twoWay_of_le hd, hlevel] at h
  rw [if_neg (by simp only [Bool.or_eq_true, decide_eq_true_eq]; omega)] at h
  cases h

theorem leBytes_le_four (x y z w : Byte) : leBytes 4 (le [x, y, z, w]) = [x, y, z, w] := by
  have hx := x.isLt
  have hy := y.isLt
  have hz := z.isLt
  have hw := w.isLt
  simp only [leBytes, le, List.cons.injEq, and_true]
  refine ⟨?_, ?_, ?_, ?_⟩ <;> apply BitVec.eq_of_toNat_eq <;> simp <;> omega

theorem le_four (x y z w : Byte) :
    le [x, y, z, w] = x.toNat + 256 * y.toNat + 65536 * z.toNat + 16777216 * w.toNat := by
  simp only [le]
  omega

theorem le_four_lt (x y z w : Byte) : le [x, y, z, w] < 4294967296 := by
  have hx := x.isLt
  have hy := y.isLt
  have hz := z.isLt
  have hw := w.isLt
  rw [le_four]
  omega

theorem CounterOperands.Stored.value_toNat {o : CounterOperands} {i : Fin 8} {k : Counter} (h : o.Stored i k)
    (hlt : o.preload < 4294967296) : k.value.toNat = o.preload := by
  rw [h.value, BitVec.toNat_ofNat, Nat.mod_eq_of_lt hlt]

theorem decodeCounter_ne {p : List Byte} (h : p.length ≠ 15) : decodeCounter p = none := by
  unfold decodeCounter
  split
  · exact absurd rfl h
  · rfl

/-- The reply of an accepted SET_COUNTER is its request (R183). -/
theorem counterBytes_eq {i e c s0 s1 g o t v d a p0 p1 p2 p3 : Byte} {x : CounterOperands}
    (hx : decodeCounter [i, e, c, s0, s1, g, o, t, v, d, a, p0, p1, p2, p3] = some x) (hin : ¬ x.outOfRange)
    {n : Fin 8} {k : Counter} (h : x.Stored n k) :
    counterBytes n k = [i, e, c, s0, s1, g, o, t, v, d, a, p0, p1, p2, p3] := by
  cases hx
  simp only [CounterOperands.outOfRange, not_or, not_lt] at hin
  obtain ⟨-, -, -, -, -, -, hv, hd, -, -⟩ := hin
  have hvalue : k.value.toNat = le [p0, p1, p2, p3] := h.value_toNat (le_four_lt p0 p1 p2 p3)
  unfold counterBytes
  rw [hvalue, leBytes_le_four, h.siteMask, le_two, leBytes_two, h.index, h.event, h.chMask, h.group, groupCode_read,
    h.outcomeMask, h.threshold, h.invert, flagByte_decide hv, h.edge, flagByte_decide hd, h.action]
  simp [byte]

theorem serveSetCounter_outOfRange {p : List Byte} {o : CounterOperands} (hp : decodeCounter p = some o)
    (h : o.outOfRange) (s : State) : serveSetCounter p s = refuse s .range := by
  have hnone : counterOf o = none := by
    cases hc : counterOf o with
    | none => rfl
    | some x => exact absurd h (counterOf_eq_some hc).1
  simp only [serveSetCounter, hp, hnone]

/-- An accepted SET_COUNTER stores its settings in the counter it names. -/
theorem serveSetCounter_inRange {p : List Byte} {o : CounterOperands} (hp : decodeCounter p = some o)
    (h : ¬ o.outOfRange) (s : State) :
    ∃ i k, serveSetCounter p s = accept (s.setCounter i k) (counterBytes i k) ∧ o.Stored i k := by
  cases hc : counterOf o with
  | none => exact absurd (counterOf_eq_none hc) h
  | some x =>
    obtain ⟨i, k⟩ := x
    exact ⟨i, k, by simp only [serveSetCounter, hp, hc], (counterOf_eq_some hc).2⟩

/-! ## The reading and the clearing of the flags (R144, R145) -/

theorem Eight.toList_eq_map {α : Type} (f : Eight α) : f.toList = allEight.map f.get := rfl

/-- Bit n of the flags byte is counter n's flag (R183). -/
theorem overflowByte_eq (b : CounterBlock) :
    overflowByte b =
      BitVec.ofNat 8 ((allEight.map fun i => if (b.units.get i).overflow then 2 ^ i.val else 0).sum) := by
  simp only [overflowByte, byte, bit, allEight, List.map_cons, List.map_nil, List.sum_cons, List.sum_nil, mul_ite,
    mul_one, mul_zero, add_zero, add_assoc]
  rfl

theorem State.clearFlags_get (s : State) (mask : Byte) (i : Fin 8) :
    (s.clearFlags mask).counters.units.get i = clearFlag mask i.val (s.counters.units.get i) := by
  fin_cases i <;> rfl

theorem serveReadCounters_nil (s : State) :
    serveReadCounters [] s = accept s
      (allEight.flatMap (fun i => leBytes 4 (s.counters.units.get i).value.toNat) ++
        [BitVec.ofNat 8 ((allEight.map fun i => if (s.counters.units.get i).overflow then 2 ^ i.val else 0).sum),
         if s.counters.frozen then 1 else 0]) := by
  simp only [serveReadCounters, noOperand, if_true, overflowByte_eq, Eight.toList_eq_map, List.flatMap_map]
  rfl

theorem serveFreezeCounters_one (m : Byte) (s : State) :
    serveFreezeCounters [m] s =
      if 1 < m.toNat then refuse s .range
      else accept (s.withCounters { s.counters with frozen := decide (m = 1) }) [m] := by
  by_cases h : 1 < m.toNat
  · simp only [serveFreezeCounters, oneByte, twoWay_of_gt h, if_pos h]
  · simp only [serveFreezeCounters, oneByte, twoWay_of_le (not_lt.1 h), if_neg h]

/-- An accepted counter request on an open link: the counters as it leaves them, and its reply going out. -/
theorem exec_countersSet {s : State} {r : Request} {tag : Byte} {p body : List Byte} {x : CounterBlock}
    (hp : p.length ≤ 1024) (h : s.linkOpen) (hr : handle r p s.begin = accept (s.begin.withCounters x) body) :
    exec (r.command tag p) s = .next ((s.begin.withCounters x).replying (requestCode r + 0x80) tag .ok body) := by
  obtain ⟨-, hwait, hsend, hdue, -⟩ := id h
  exact exec_accepted_sending hp h hr hsend hwait hdue

theorem exec_setCounter_accepted {s : State} {tag i e c s0 s1 g o t v d a p0 p1 p2 p3 : Byte} {x : CounterOperands}
    (hx : decodeCounter [i, e, c, s0, s1, g, o, t, v, d, a, p0, p1, p2, p3] = some x) (hin : ¬ x.outOfRange)
    (h : s.linkOpen) :
    ∃ n k, exec (.setCounter tag [i, e, c, s0, s1, g, o, t, v, d, a, p0, p1, p2, p3]) s =
        .next ((s.begin.withCounters { s.counters with units := s.counters.units.set n k }).replying 0xD0 tag .ok
          [i, e, c, s0, s1, g, o, t, v, d, a, p0, p1, p2, p3]) ∧ x.Stored n k := by
  obtain ⟨n, k, hserve, hstored⟩ := serveSetCounter_inRange hx hin s.begin
  rw [counterBytes_eq hx hin hstored] at hserve
  exact ⟨n, k, exec_countersSet (r := .setCounter) (by simp) h hserve, hstored⟩

/-- Settles O52: the payload's check by `counterOf_eq_some` and `counterOf_eq_none`, the reply by `counterBytes_eq`; the
other three requests by what each serves. -/
theorem counterRequestsServed : Obligations.CounterRequestsServed := by
  unfold Obligations.CounterRequestsServed
  refine ⟨rfl, rfl, fun tag p s hp hopen => ⟨fun hne => ?setLength, ?setCounter⟩, fun tag p s hp hopen =>
    ⟨?read, fun hne => ⟨?clearLength, ?freezeLength⟩, fun m hm => ⟨?clear, ?freeze⟩⟩⟩
  case setLength =>
    exact exec_refused (r := .setCounter) hp hopen (by simp only [handle, serveSetCounter, decodeCounter_ne hne])
  case setCounter =>
    rintro i e c s0 s1 g o th inv ed a p0 p1 p2 p3 rfl bad
    set x : CounterOperands :=
      { index := i, event := e, chMask := c, siteMask := le [s0, s1], group := g, outcomeMask := o, threshold := th,
        invert := inv, edge := ed, action := a, preload := le [p0, p1, p2, p3] } with hx
    have hdec : decodeCounter [i, e, c, s0, s1, g, o, th, inv, ed, a, p0, p1, p2, p3] = some x := rfl
    have hbad : x.outOfRange ↔ bad := by
      have hsite : 511 < le [s0, s1] ↔ 1 < s1.toNat := by
        have := s0.isLt
        rw [le_two]
        omega
      simp only [CounterOperands.outOfRange, hx, hsite]
      rfl
    refine ⟨fun h => ?_, fun h => ?_⟩
    · exact exec_refused (r := .setCounter) hp hopen (serveSetCounter_outOfRange hdec (hbad.2 h) s.begin)
    · obtain ⟨n, k, hexec, hk⟩ := exec_setCounter_accepted hdec (mt hbad.1 h) hopen
      have hvalue := (hk.value_toNat (le_four_lt p0 p1 p2 p3)).trans (le_four p0 p1 p2 p3)
      exact ⟨n, k, hexec, hk.index, hk.event, hk.chMask, hk.siteMask.trans (le_two s0 s1), hk.group, hk.outcomeMask,
        hk.threshold, hk.invert, hk.edge, hk.action, hvalue, hk.overflow, hk.edgeHeld⟩
  case read =>
    by_cases hnil : p = []
    · subst hnil
      exact exec_unchanged (r := .readCounters) hp hopen (serveReadCounters_nil s.begin)
    · rw [if_pos hnil]
      exact exec_refused (r := .readCounters) hp hopen (by simp only [handle, serveReadCounters, noOperand_ne hnil])
  case clearLength =>
    exact exec_refused (r := .clearOverflow) hp hopen (by simp only [handle, serveClearOverflow, oneByte_ne hne])
  case freezeLength =>
    exact exec_refused (r := .freezeCounters) hp hopen (by simp only [handle, serveFreezeCounters, oneByte_ne hne])
  case clear =>
    subst hm
    refine ⟨(s.clearFlags m).counters.units, ?_, s.clearFlags_get m⟩
    rw [← overflowByte_eq (s.clearFlags m).counters]
    exact exec_countersSet (r := .clearOverflow) hp hopen rfl
  case freeze =>
    subst hm
    have hserve := serveFreezeCounters_one m s.begin
    split
    next hr =>
      rw [if_pos hr] at hserve
      exact exec_refused (r := .freezeCounters) hp hopen hserve
    next hr =>
      rw [if_neg hr] at hserve
      exact exec_countersSet (r := .freezeCounters) hp hopen hserve

end Sys2Proof.Machine
end

section
/-! END_RUN (R156): O34. -/

namespace Sys2Proof.Machine

/-- The run states in which END_RUN is refused are those in which the run is not over (R156). -/
theorem State.runOver_eq_false_iff (s : State) :
    s.runOver = false ↔ s.run.state = .idle ∨ s.run.state = .active := by
  unfold State.runOver
  cases s.run.state <;> simp

/-- A payload with no operand: the run state alone decides (R156). -/
theorem serveEndRun_nil (s : State) :
    serveEndRun [] s = if s.runOver then accept s.endRun [] else refuse s .state := rfl

theorem serveEndRun_ne {p : List Byte} (h : p ≠ []) (s : State) : serveEndRun p s = refuse s .length := by
  simp only [serveEndRun, noOperand_ne h]

/-- Settles O34: END_RUN by its checks, in order; the closing touches no part of the link, so its reply goes out at
once. -/
theorem endRunServed : Obligations.EndRunServed := by
  unfold Obligations.EndRunServed
  intro tag p s hp hopen
  by_cases hne : p ≠ []
  · rw [if_pos hne]
    exact exec_refused (r := .endRun) hp hopen (serveEndRun_ne hne s.begin)
  obtain rfl := not_not.1 hne
  rw [if_neg hne]
  have hserve := serveEndRun_nil s.begin
  split
  next hrefused =>
    rw [s.begin.runOver_eq_false_iff.2 hrefused] at hserve
    exact exec_refused (r := .endRun) hp hopen hserve
  next hover =>
    have hrunOver : s.begin.runOver = true := by
      rw [← Bool.not_eq_false, s.begin.runOver_eq_false_iff]
      exact hover
    rw [if_pos hrunOver] at hserve
    obtain ⟨-, hwait, hsend, hdue, -⟩ := id hopen
    exact exec_accepted_sending (r := .endRun) hp hopen hserve hsend hwait hdue

end Sys2Proof.Machine
end

section
/-! SUPPORT. Bytes laid end to end: where each part of a list stands that is made of parts, or of rows of one length. -/

namespace Sys2Proof.Machine

/-- The bytes `x` stand in `b` at offset `i`. -/
def StandsAt (b : List Byte) (i : Nat) (x : List Byte) : Prop := x <+: b.drop i

theorem StandsAt.part {b x : List Byte} {i n : Nat} (h : StandsAt b i x) (hn : x.length = n) :
    (b.drop i).take n = x := by
  rw [← hn]
  exact (List.prefix_iff_eq_take.1 h).symm

/-- What stands in a part stands in the whole. -/
theorem StandsAt.trans {b y x : List Byte} {i j : Nat} (h : StandsAt b i y) (g : StandsAt y j x) :
    StandsAt b (i + j) x := by
  unfold StandsAt at *
  rw [← List.drop_drop]
  exact g.trans (h.drop j)

/-- A part stands where the parts before it end. -/
theorem standsAt_flatten {parts : List (List Byte)} {k : Nat} {x : List Byte} (h : parts[k]? = some x) :
    StandsAt parts.flatten ((parts.take k).map List.length).sum x := by
  obtain ⟨hk, rfl⟩ := List.getElem?_eq_some_iff.1 h
  unfold StandsAt
  rw [List.map_take, List.drop_sum_flatten, List.drop_eq_getElem_cons hk, List.flatten_cons]
  exact List.prefix_append _ _

theorem length_flatMap_rows {α : Type} {f : α → List Byte} {n : Nat} (hf : ∀ a, (f a).length = n) (l : List α) :
    (l.flatMap f).length = n * l.length := by
  simp [List.length_flatMap, hf, Nat.mul_comm]

/-- The row of the element at place `j` stands after `j` rows. -/
theorem standsAt_row {α : Type} {f : α → List Byte} {n : Nat} (hf : ∀ a, (f a).length = n) {l : List α} {j : Nat}
    {a : α} (h : l[j]? = some a) : StandsAt (l.flatMap f) (n * j) (f a) := by
  have hj : j ≤ l.length := (List.getElem?_eq_some_iff.1 h).1.le
  have hrows := standsAt_flatten (parts := l.map f) (k := j) (x := f a) (by rw [List.getElem?_map, h]; rfl)
  rw [← List.flatMap_def, ← List.map_take, ← List.length_flatten, ← List.flatMap_def, length_flatMap_rows hf,
    List.length_take, Nat.min_eq_left hj] at hrows
  exact hrows

end Sys2Proof.Machine
end

section
/-! The status snapshot (R175, R184): O12. -/

namespace Sys2Proof.Machine

/-! ## The lengths of the parts -/

@[simp] theorem length_leBytes (n v : Nat) : (leBytes n v).length = n := by
  induction n generalizing v with
  | zero => rfl
  | succ n ih => simp [leBytes, ih]

@[simp] theorem length_sleBytes (n : Nat) (v : Int) : (sleBytes n v).length = n := length_leBytes n _

@[simp] theorem length_runBytes (s : State) : (runBytes s).length = 4 := rfl

@[simp] theorem length_fetchBytes (f : Fetch) : (fetchBytes f).length = 5 := by
  cases f with
  | stopped p => cases p <;> rfl
  | _ => rfl

@[simp] theorem length_bankBytes (k : Bank) : (bankBytes k).length = 6 := rfl

@[simp] theorem length_entryBytes (e : WindowEntry) : (entryBytes e).length = 10 := rfl

@[simp] theorem length_instanceBytes (r : Option Running) : (instanceBytes r).length = 6 := by cases r <;> rfl

@[simp] theorem length_monitorBytes (m : Monitor) : (monitorBytes m).length = 9 := rfl

@[simp] theorem length_channelBytes (s : State) (c : Chan) : (channelBytes s c).length = 23 := by
  simp only [channelBytes, List.length_append]
  split <;> simp [absentBytes]

@[simp] theorem length_releaseBytes (e : ReleaseEntry) : (releaseBytes e).length = 8 := rfl

@[simp] theorem length_waitBytes (w : WaitItem) : (waitBytes w).length = 2 := rfl

@[simp] theorem length_siteBytes (e : SiteEntry) : (siteBytes e).length = 6 := rfl

/-! ## The parts -/

/-- The parts of the snapshot in the order of R184, each list of rows apart from the count before it. -/
def snapshotParts (s : State) : List (List Byte) :=
  [runBytes s, fetchBytes s.disp.fetch, bankBytes s.plan.a ++ bankBytes s.plan.b, [byte s.disp.window.length],
    s.disp.window.flatMap entryBytes, allChans.flatMap (channelBytes s),
    leBytes 2 s.relays.tOp ++ leBytes 2 s.relays.tRel ++ [byte s.relays.queue.length],
    s.relays.queue.flatMap releaseBytes, [byte s.relays.waitList.length], s.relays.waitList.flatMap waitBytes,
    leBytes 2 s.results.records.length ++ [byte s.sites.count],
    allEight.flatMap (fun i => siteBytes (s.sites.entries.get i)),
    [senseByte s.run, byte s.run.outputs.toNat] ++ leBytes 4 s.time.toNat ++ leBytes 2 s.link.errorCount ++
      [Config.revision]]

theorem snapshot_eq_flatten (s : State) : snapshot s = (snapshotParts s).flatten := by
  simp only [snapshot, snapshotParts, relayBytes, Eight.toList_eq_map, List.flatMap_map, List.flatten_cons,
    List.flatten_nil, List.append_assoc, List.cons_append, List.nil_append, List.append_nil]

/-- The lengths of the parts. -/
theorem map_length_snapshotParts (s : State) :
    (snapshotParts s).map List.length = [4, 5, 12, 1, 10 * s.disp.window.length, 92, 5, 8 * s.relays.queue.length, 1,
      2 * s.relays.waitList.length, 3, 48, 9] := by
  simp only [snapshotParts, List.map_cons, List.map_nil, length_flatMap_rows length_entryBytes,
    length_flatMap_rows (length_channelBytes s), length_flatMap_rows length_releaseBytes,
    length_flatMap_rows length_waitBytes, length_flatMap_rows (fun i => length_siteBytes (s.sites.entries.get i)),
    List.length_append, length_runBytes, length_fetchBytes, length_bankBytes, length_leBytes, List.length_cons,
    List.length_nil, allChans, allEight]

theorem length_snapshot (s : State) :
    (snapshot s).length =
      180 + 10 * s.disp.window.length + 8 * s.relays.queue.length + 2 * s.relays.waitList.length := by
  rw [snapshot_eq_flatten, List.length_flatten, map_length_snapshotParts]
  simp only [List.sum_cons, List.sum_nil]
  omega

/-- A part of the snapshot stands where the parts before it end. -/
theorem snapshot_standsAt (s : State) {k i : Nat} {x : List Byte} (h : (snapshotParts s)[k]? = some x)
    (hi : (((snapshotParts s).map List.length).take k).sum = i) : StandsAt (snapshot s) i x := by
  rw [snapshot_eq_flatten, ← hi, ← List.map_take]
  exact standsAt_flatten h

/-! ## One channel's row -/

/-- What the phase of a running channel gives its row (R102): the channel code, the connect phase, whether it waits in a
list, the dwell count and the monitor shown. -/
def State.shownPhase (s : State) (c : Chan) (k : Running) : Byte × Byte × Bool × List Byte × Monitor :=
  match k.phase with
  | .connecting .release => (1, 0, false, [0xFF, 0xFF], (s.chan c).monitor)
  | .connecting .close => (1, 1, false, [0xFF, 0xFF], (s.chan c).monitor)
  | .settling => (2, 0xFF, false, [0xFF, 0xFF], (s.chan c).monitor)
  | .acquiring => (3, 0xFF, false, [0xFF, 0xFF], (s.chan c).monitor)
  | .dwelling n => (4, 0xFF, false, leBytes 2 n, { Monitor.empty with dwellRemaining := k.inst.step.dwell - n })
  | .posting _ => (5, 0xFF, decide (c ∈ s.results.waiting), [0xFF, 0xFF], (s.chan c).monitor)
  | .releasing => (6, 0xFF, decide (c ∈ s.relays.waitList.map WaitItem.ch), [0xFF, 0xFF], (s.chan c).monitor)

theorem any_waits_eq (l : List WaitItem) (c : Chan) :
    (l.any fun w => decide (w.ch = c)) = decide (c ∈ l.map WaitItem.ch) := by
  rw [Bool.eq_iff_iff]
  simp

theorem channelBytes_idle {s : State} {c : Chan} (h : (s.chan c).running = none) :
    channelBytes s c =
      [0x00, 0xFF, 0xFF, 0xFF, 0xFF, 0xFF, 0xFF, 0xFF, if (s.chan c).stim.on then 2 else 0,
        byte (s.chan c).stim.range] ++
        sleBytes 2 (s.chan c).stim.level ++ [0xFF, 0xFF] ++ monitorBytes (s.chan c).monitor := by
  simp only [channelBytes, State.waitsInList, Channel.shownMonitor, h]
  cases (s.chan c).stim.on <;> rfl

theorem channelBytes_running {s : State} {c : Chan} {k : Running} (h : (s.chan c).running = some k) :
    let view := s.shownPhase c k
    channelBytes s c =
      [view.1, view.2.1, bankCode k.inst.bank, byte k.inst.stepIndex] ++ leBytes 2 k.inst.step.label ++
        [siteCode k.inst.site, byte k.attempt,
          byte (1 + 2 * bit (s.chan c).stim.on + 4 * bit view.2.2.1), byte (s.chan c).stim.range] ++
        sleBytes 2 (s.chan c).stim.level ++ view.2.2.2.1 ++ monitorBytes view.2.2.2.2 := by
  obtain ⟨inst, attempt, phase⟩ := k
  simp only [channelBytes, State.waitsInList, Channel.shownMonitor, h, List.contains_eq_mem, any_waits_eq]
  cases phase with
  | connecting p => cases p <;> rfl
  | _ => rfl

/-! ## The statement -/

/-- Settles O12: every part by its place among `snapshotParts`, every row by its place in its part. -/
theorem snapshotLayout : Obligations.SnapshotLayout := by
  unfold Obligations.SnapshotLayout
  refine ⟨fun s => ?_, rfl, rfl, rfl, rfl, rfl, rfl, rfl, rfl, fun i => ?_⟩
  · intro b part w q v bank settle
    have hpart : ∀ k {i x}, (snapshotParts s)[k]? = some x →
        ([4, 5, 12, 1, 10 * w, 92, 5, 8 * q, 1, 2 * v, 3, 48, 9].take k).sum = i → StandsAt b i x := fun k i x h hi =>
      snapshot_standsAt s h (by rw [map_length_snapshotParts]; exact hi)
    have hwindow : StandsAt b 22 (s.disp.window.flatMap entryBytes) := hpart 4 rfl rfl
    have hchans : StandsAt b (22 + 10 * w) (allChans.flatMap (channelBytes s)) := hpart 5 rfl (by simp; omega)
    have hqueue : StandsAt b (119 + 10 * w) (s.relays.queue.flatMap releaseBytes) := hpart 7 rfl (by simp; omega)
    have hwaits : StandsAt b (120 + 10 * w + 8 * q) (s.relays.waitList.flatMap waitBytes) :=
      hpart 9 rfl (by simp; omega)
    refine ⟨length_snapshot s, (hpart 0 rfl rfl).part rfl, ?fetch, (hpart 2 rfl rfl).part rfl,
      (hpart 3 rfl rfl).part rfl, fun j e he => (hwindow.trans (standsAt_row length_entryBytes he)).part rfl,
      fun c => ?channel, (hpart 6 rfl (by simp; omega)).part rfl, fun j e he => ?entry,
      (hpart 8 rfl (by simp; omega)).part rfl,
      fun j x hx => (hwaits.trans (standsAt_row length_waitBytes hx)).part rfl, ?_⟩
    case fetch =>
      rw [show part 4 5 = fetchBytes s.disp.fetch from (hpart 1 rfl rfl).part (length_fetchBytes _)]
      cases s.disp.fetch with
      | stopped p => cases p <;> rfl
      | _ => rfl
    case channel =>
      intro x row
      have hrow : row = channelBytes s c :=
        (hchans.trans (standsAt_row (length_channelBytes s) (by fin_cases c <;> rfl))).part (length_channelBytes s c)
      exact ⟨fun h => hrow.trans (channelBytes_idle h), fun k hk => hrow.trans (channelBytes_running hk)⟩
    case entry =>
      rw [show part (119 + 10 * w + 8 * j) 8 = releaseBytes e from
        (hqueue.trans (standsAt_row length_releaseBytes he)).part rfl]
      cases h : e.owner <;> simp only [releaseBytes, h] <;> rfl
    intro z
    have hsites : StandsAt b (z + 3) (allEight.flatMap fun i => siteBytes (s.sites.entries.get i)) :=
      hpart 11 rfl (by simp; omega)
    refine ⟨(hpart 10 rfl (by simp; omega)).part rfl, fun i => ?_, (hpart 12 rfl (by simp; omega)).part rfl⟩
    exact (hsites.trans (standsAt_row (a := i) (fun i => length_siteBytes (s.sites.entries.get i))
      (by fin_cases i <;> rfl))).part rfl
  · fin_cases i <;> rfl

end Sys2Proof.Machine
end


section
/-! SUPPORT. The station link's own operations, each in the terms of the statements: a frame error, a frame delivered to
the slot, and the next frame the transmitter starts (R165 to R170). -/

namespace Sys2Proof.Machine

/-! ## Frame errors and the slot -/

theorem Link.countError_eq (l : Link) : l.countError = l.faulted := rfl

theorem Link.settled_faulted {l : Link} (h : l.settled) : l.faulted.settled := by
  obtain h | ⟨hw, -⟩ := h
  · exact Or.inl h
  · exact Or.inr ⟨hw, Or.inr rfl⟩

/-- A frame too long, or one that finds the slot full, is a frame error (R167). -/
theorem State.deliver_error {s : State} {f : Frame} (h : 1024 < f.payload.length ∨ s.link.slot ≠ none) :
    State.deliver f s = s.withLink s.link.faulted := by
  unfold State.deliver
  rw [Link.countError_eq, ite_eq_left_iff]
  intro hlen
  exact if_pos (Option.isSome_iff_ne_none.2 (h.resolve_left hlen))

/-- No request can be served while a reply waits or is being sent (R168). -/
theorem Link.not_ready {l : Link} (h : l.waiting ≠ none ∨ ∃ o, l.sending = some o ∧ o.isReply = true) :
    l.ready = false := by
  unfold Link.ready
  obtain h | ⟨o, ho, hr⟩ := h
  · rw [Option.isNone_eq_false_iff.2 (Option.isSome_iff_ne_none.2 h), Bool.false_and]
  · rw [ho, Option.any_some, hr, Bool.not_true, Bool.and_false]

/-- A frame that fits, delivered to an empty slot, is put in the slot (R165). -/
theorem State.deliver_slot {s : State} {f : Frame} (hlen : f.payload.length ≤ 1024) (hslot : s.link.slot = none) :
    State.deliver f s = (s.withLink { s.link with slot := some f }).serveSlot := by
  unfold State.deliver
  rw [if_neg (show ¬ Config.maxPayload < _ from Nat.not_lt.2 hlen), if_neg (by simp [hslot])]

/-- A frame in the slot waits while a reply is outstanding (R168). -/
theorem State.serveSlot_not_ready {s : State} (h : s.link.ready = false) : s.serveSlot = s := by
  unfold State.serveSlot
  split
  · rfl
  · rw [h]; rfl

theorem State.serveSlot_empty {s : State} (h : s.link.slot = none) : s.serveSlot = s := by
  unfold State.serveSlot; rw [h]

/-- A frame in the slot is served where no reply is outstanding, and leaves the slot (R168). -/
theorem State.serveSlot_ready {s : State} {f : Frame} (hslot : s.link.slot = some f) (h : s.link.ready = true) :
    s.serveSlot = (s.withLink { s.link with slot := none }).serveFrame f := by
  unfold State.serveSlot; rw [hslot]; exact if_pos h

/-! ## The next frame (R170) -/

@[simp] theorem Link.sendReply_slot (l : Link) : l.sendReply.slot = l.slot := by
  unfold Link.sendReply; split <;> rfl

@[simp] theorem Link.startFrame_slot (l : Link) : l.startFrame.slot = l.slot := by
  unfold Link.startFrame
  split
  · rfl
  · split
    · split <;> simp
    · simp

theorem Link.resyncWaits_iff (l : Link) :
    l.resyncWaits = true ↔ ∃ r, l.waiting = some r ∧ r.frame.kind = 0x82 := by
  unfold Link.resyncWaits resyncReplyKind
  cases l.waiting <;> simp

/-- The oldest due notice goes first. -/
theorem Link.startFrame_notice {l : Link} {k : Notice} {ks : List Notice} (hs : l.sending = none)
    (hd : l.due = k :: ks) (hf : l.fault = false) (hr : ¬ ∃ r, l.waiting = some r ∧ r.frame.kind = 0x82) :
    l.startFrame = { l with
      due := ks
      sending := some
        { isReply := false, newMask := none, frame := l.noticeFrame k, wire := (l.noticeFrame k).bytes } } := by
  rw [← Link.resyncWaits_iff, Bool.not_eq_true] at hr
  unfold Link.startFrame
  simp [hs, hd, hf, hr]

/-- A waiting reply goes out where no notice may go before it. -/
theorem Link.startFrame_reply {l : Link} {r : Reply} (hs : l.sending = none) (hw : l.waiting = some r)
    (hd : l.due = [] ∨ l.fault = true ∨ ∃ r, l.waiting = some r ∧ r.frame.kind = 0x82) :
    l.startFrame = { l with
      waiting := none
      sending := some { isReply := true, newMask := r.newMask, frame := r.frame, wire := r.frame.bytes } } := by
  have hreply : l.sendReply = { l with
      waiting := none
      sending := some { isReply := true, newMask := r.newMask, frame := r.frame, wire := r.frame.bytes } } := by
    unfold Link.sendReply; rw [hw]
  rw [← hreply]
  unfold Link.startFrame
  rw [if_neg (by simp [hs])]
  split
  next k ks hk =>
    refine if_neg ?_
    obtain h | h | h := hd
    · rw [h] at hk; cases hk
    · simp [h]
    · simp [l.resyncWaits_iff.2 h]
  next => rfl

/-! ## The close of an event on the link -/

/-- An event that comes to a link change with nothing left to send. -/
theorem event_settled {g : State → State} {s : State} {l : Link} (hg : g s.begin = s.begin.withLink l)
    (hl : l.settled) : event g s = .next (s.begin.withLink l) := by
  rw [event_eq, hg, State.transmit_settled (s := s.begin.withLink l) hl]

theorem event_unchanged {g : State → State} {s : State} (hg : g s.begin = s.begin) (hl : s.link.settled) :
    event g s = .next s.begin :=
  event_settled (l := s.link) hg hl

end Sys2Proof.Machine
end

section
/-! Requests held or overrun, and the reply to every request: O6, O7. -/

namespace Sys2Proof.Machine

/-- Settles O6: the delivery by the checks before the slot, then by the readiness of the link. -/
theorem requestHeldOrOverrun : Obligations.RequestHeldOrOverrun := by
  unfold Obligations.RequestHeldOrOverrun
  intro r tag p s hset
  refine ⟨fun herr => ?_, fun hlen hslot hout => ?_⟩
  · rw [exec_command]
    exact event_settled (State.deliver_error (s := s.begin) herr) (Link.settled_faulted hset)
  · rw [exec_command]
    refine event_settled ?_ hset
    rw [State.deliver_slot (s := s.begin) hlen hslot]
    exact State.serveSlot_not_ready (Link.not_ready hout)

/-- A frame that names a request is answered, whatever the fault flag: the reply is formed over a state whose slot and
transmitter are as before (R168). -/
theorem State.serveFrame_answer (s : State) (r : Request) (tag : Byte) (p : List Byte) :
    ∃ (u : State) (a : Answer), s.serveFrame { kind := requestCode r, tag := tag, payload := p } =
        u.formReply (requestCode r + 0x80) tag a ∧
      u.link.slot = s.link.slot ∧ u.link.sending = s.link.sending := by
  by_cases h : s.link.fault = false ∨ r = .resync
  · exact ⟨_, _, State.serveFrame_request r tag p h, handle_link_slot r p s, handle_link_sending r p s⟩
  · obtain ⟨hfault, hr⟩ := not_or.1 h
    refine ⟨s, refuse s .faulted, ?_, rfl, rfl⟩
    unfold State.serveFrame
    simp only [requestOf_requestCode]
    rw [if_pos (by simp [hfault, hr])]
    rfl

/-- Settles O7: the frame is served at once, and the transmitter sends the reply or leaves it waiting. -/
theorem everyRequestAnswered : Obligations.EveryRequestAnswered := by
  unfold Obligations.EveryRequestAnswered
  refine ⟨rfl, rfl, rfl, fun r tag p s hp hready => ?_⟩
  obtain ⟨u, a, hserve, hslot, hsending⟩ := s.begin.serveFrame_answer r tag p
  obtain ⟨hreply, hkeep, hslot', -⟩ := State.transmit_hasReply u a (requestCode r + 0x80) tag
  rw [hslot] at hslot'
  rw [hsending] at hkeep
  refine ⟨_, a.status, a.body, a.newMask, ?_, hslot'.trans hready.1, hreply, hkeep⟩
  rw [exec_command, event_eq, State.deliver_ready (s := s.begin) hp hready, hserve]

end Sys2Proof.Machine
end

section
/-! READ_STATUS, RESYNC and the raising of notices: O11, O15. -/

namespace Sys2Proof.Machine

theorem serveResync_nil (s : State) :
    serveResync [] s =
      accept (s.withLink { s.link with fault := false, errorCount := 0 }) (leBytes 2 s.link.errorCount) := rfl

theorem serveResync_ne {p : List Byte} (h : p ≠ []) (s : State) : serveResync p s = refuse s .length := by
  simp only [serveResync, noOperand_ne h]

/-- RESYNC served with nothing else going out: its reply goes out before any notice (R169, R170). -/
theorem exec_resync {s : State} {tag : Byte} {p : List Byte} {a : Answer} (hp : p.length ≤ 1024) (h : s.linkReady)
    (ha : serveResync p s.begin = a) (hs : a.state.link.sending = none) (hw : a.state.link.waiting = none) :
    exec (.resync tag p) s = .next (a.state.replyingMask 0x82 tag a.status a.body a.newMask) := by
  subst ha
  have hserve := State.serveFrame_request (s := s.begin) .resync tag p (Or.inr rfl)
  have hsent := State.transmit_formReply (serveResync p s.begin) 0x82 tag hs hw (Or.inr (Or.inr rfl))
  refine (exec_command .resync tag p s).trans ?_
  rw [event_eq, State.deliver_ready (s := s.begin) hp h, hserve, ← hsent]
  rfl

/-- Settles O11: READ_STATUS on an open link; RESYNC by its two answers, whose reply no notice delays. -/
theorem readStatusAndResync : Obligations.ReadStatusAndResync := by
  unfold Obligations.ReadStatusAndResync
  refine ⟨fun tag p s hp hopen => ?_, fun tag p s hp hslot hwait hsend => ?_⟩
  · split
    next hnil =>
      subst hnil
      exact exec_unchanged (r := .readStatus) hp hopen rfl
    next hne =>
      exact exec_refused (r := .readStatus) hp hopen (by simp only [handle, serveReadStatus, noOperand_ne hne])
  · have hready : s.linkReady := ⟨hslot, hwait, fun o ho => by rw [hsend] at ho; cases ho⟩
    split
    next hnil =>
      subst hnil
      exact exec_resync hp hready (serveResync_nil s.begin) hsend hwait
    next hne => exact exec_resync hp hready (serveResync_ne hne s.begin) hsend hwait

/-- Raising a kind that is not pending (R171). -/
theorem Link.raise_of_not_pending {l : Link} {k : Notice} (h : k.isIn l.pendingSet = false) :
    l.raise k = { l with
      pendingSet := (l.raise k).pendingSet
      due := if k.isIn l.enableMask = true ∧ k ∉ l.due then l.due ++ [k] else l.due } := by
  unfold Link.raise
  simp [h]

/-- Settles O15: the pending set by `Link.isIn_raise`, the due list by the raise of a kind not pending. -/
theorem noticeRaised : Obligations.NoticeRaised := by
  unfold Obligations.NoticeRaised
  refine ⟨⟨rfl, fun _ _ => rfl⟩, fun s k => ⟨State.raise_of_pending, fun h => ?_⟩⟩
  have hraise := Link.raise_of_not_pending h
  have hdue := congrArg Link.due hraise
  refine ⟨s.isIn_raise k, hdue, ?_⟩
  show s.withLink (s.link.raise k) = s.withLink { s.link with
    pendingSet := (s.link.raise k).pendingSet, due := (s.link.raise k).due }
  rw [hdue, ← hraise]

end Sys2Proof.Machine
end

section
/-! TRANSMIT_COMPLETE (R168, R170, R174): O9. -/

namespace Sys2Proof.Machine

theorem State.transmitComplete_idle {s : State} (h : s.link.sending = none) : s.transmitComplete = s := by
  unfold State.transmitComplete; rw [h]

theorem State.transmitComplete_sending {s : State} {o : Outgoing} (h : s.link.sending = some o) :
    s.transmitComplete = (s.withLink (s.link.frameSent o).startFrame).serveSlot := by
  unfold State.transmitComplete; rw [h]

/-- TRANSMIT_COMPLETE with no request in the slot: the mask in force, and the next frame started. -/
theorem exec_transmitComplete_empty {s : State} {o : Outgoing} {l : Link} (ho : s.link.sending = some o)
    (hslot : s.link.slot = none) (hl : (s.link.frameSent o).startFrame = l) :
    exec .transmitComplete s = .next (s.begin.withLink l) := by
  subst hl
  refine event_settled (g := State.transmitComplete) ?_ (Link.settled_startFrame _)
  rw [State.transmitComplete_sending (s := s.begin) ho]
  exact State.serveSlot_empty ((Link.startFrame_slot _).trans hslot)

/-- TRANSMIT_COMPLETE with a request in the slot and nothing else to send: the request is served as if its frame had
then arrived (R168). -/
theorem exec_transmitComplete_slot {s : State} {o : Outgoing} {f : Frame} (ho : s.link.sending = some o)
    (hslot : s.link.slot = some f) (hp : f.payload.length ≤ 1024) (hw : s.link.waiting = none)
    (hd : s.link.due = [] ∨ s.link.fault = true) :
    exec .transmitComplete s =
      exec (.unknownKind f.kind f.tag f.payload) (s.withLink { s.link.frameSent o with slot := none }) := by
  have hstart : (s.link.frameSent o).startFrame = s.link.frameSent o := Link.startFrame_settled (Or.inr ⟨hw, hd⟩)
  have hready : (s.link.frameSent o).ready = true := by simp [Link.ready, Link.frameSent, hw]
  have hdeliver := State.deliver_ready (s := (s.withLink { s.link.frameSent o with slot := none }).begin) hp
    ⟨rfl, hw, fun _ h => by cases h⟩
  have hserve := State.serveSlot_ready (s := s.begin.withLink (s.link.frameSent o)) hslot hready
  show event State.transmitComplete s = event (State.deliver f) (s.withLink { s.link.frameSent o with slot := none })
  rw [event_eq, event_eq, hdeliver, State.transmitComplete_sending (s := s.begin) ho, State.begin_link, hstart, hserve]
  rfl

/-- Settles O9: the next frame by what the link has to send, then the service of the slot. -/
theorem transmitCompleteServed : Obligations.TransmitCompleteServed := by
  unfold Obligations.TransmitCompleteServed
  refine ⟨fun s hslot => ⟨fun hsend hset => ?_, fun o ho => ⟨fun k ks hk hf hr => ?_, fun r hr hd => ?_,
    fun hw hd => ?_⟩⟩, fun s o f ho hslot hp hw hd => exec_transmitComplete_slot ho hslot hp hw hd⟩
  · exact event_unchanged (State.transmitComplete_idle (s := s.begin) hsend) hset
  · exact exec_transmitComplete_empty ho hslot (Link.startFrame_notice (l := s.link.frameSent o) rfl hk hf hr)
  · exact exec_transmitComplete_empty ho hslot (Link.startFrame_reply (l := s.link.frameSent o) rfl hr hd)
  · exact exec_transmitComplete_empty ho hslot (Link.startFrame_settled (Or.inr ⟨hw, hd⟩))

end Sys2Proof.Machine
end

section
/-! The frame receiver (R165 to R167): O5. -/

namespace Sys2Proof.Machine

/-! ## What the received bytes amount to -/

theorem received_tooLong {g : List Byte} (h : g.length = 2 ∧ 1024 < le (g.take 2)) : received g = .lengthError :=
  if_pos h

/-- The CRC is checked at the second CRC byte (R165). -/
theorem received_whole {g : List Byte} (hlen : ¬ (g.length = 2 ∧ 1024 < le (g.take 2)))
    (h : 2 ≤ g.length ∧ g.length = le (g.take 2) + 6) :
    received g = if g.drop (le (g.take 2) + 4) = crcBytes (g.take (le (g.take 2) + 4)) then
      .complete { kind := g.getD 2 0, tag := g.getD 3 0, payload := (g.drop 4).take (le (g.take 2)) }
    else .crcError :=
  (if_neg hlen).trans (if_pos h)

theorem received_more {g : List Byte} (hlen : ¬ (g.length = 2 ∧ 1024 < le (g.take 2)))
    (h : ¬ (2 ≤ g.length ∧ g.length = le (g.take 2) + 6)) : received g = .more :=
  (if_neg hlen).trans (if_neg h)

/-! ## One byte -/

theorem State.receiveByte_hunting {s : State} (h : s.link.receiver = .hunting) (x : Byte) :
    s.receiveByte x =
      if x = 0xD5 then s.withLink { s.link with receiver := .inFrame [] s.time } else s := by
  unfold State.receiveByte
  rw [h]
  rfl

theorem State.receiveByte_more {s : State} {got : List Byte} {last : Time} {x : Byte}
    (h : s.link.receiver = .inFrame got last) (hr : received (got ++ [x]) = .more) :
    s.receiveByte x = s.withLink { s.link with receiver := .inFrame (got ++ [x]) s.time } := by
  unfold State.receiveByte
  simp only [h, hr]

theorem State.receiveByte_error {s : State} {got : List Byte} {last : Time} {x : Byte}
    (h : s.link.receiver = .inFrame got last)
    (hr : received (got ++ [x]) = .lengthError ∨ received (got ++ [x]) = .crcError) :
    s.receiveByte x = s.withLink { s.link.faulted with receiver := .hunting } := by
  unfold State.receiveByte
  obtain hr | hr := hr <;> simp only [h, hr] <;> rfl

theorem State.receiveByte_complete {s : State} {got : List Byte} {last : Time} {x : Byte} {f : Frame}
    (h : s.link.receiver = .inFrame got last) (hr : received (got ++ [x]) = .complete f) :
    s.receiveByte x = (s.withLink { s.link with receiver := .hunting }).deliver f := by
  unfold State.receiveByte
  simp only [h, hr]

/-- A byte that goes on with a frame. -/
theorem exec_receiveByte_more {s : State} {got : List Byte} {last : Time} {x : Byte} (hset : s.link.settled)
    (hrec : s.link.receiver = .inFrame got last) (hr : received (got ++ [x]) = .more) :
    exec (.receiveByte x) s =
      .next (s.begin.withLink { s.link with receiver := .inFrame (got ++ [x]) s.time }) :=
  event_settled (State.receiveByte_more (s := s.begin) hrec hr) hset

/-- A byte that ends a frame with a frame error (R167). -/
theorem exec_receiveByte_error {s : State} {got : List Byte} {last : Time} {x : Byte} (hset : s.link.settled)
    (hrec : s.link.receiver = .inFrame got last)
    (hr : received (got ++ [x]) = .lengthError ∨ received (got ++ [x]) = .crcError) :
    exec (.receiveByte x) s = .next (s.begin.withLink { s.link.faulted with receiver := .hunting }) :=
  event_settled (State.receiveByte_error (s := s.begin) hrec hr) (Link.settled_faulted (l := s.link) hset)

/-- A byte that completes a frame: the frame is delivered to the receiver back in HUNTING (R165). -/
theorem exec_receiveByte_complete {s : State} {got : List Byte} {last : Time} {x : Byte} {f : Frame}
    (hrec : s.link.receiver = .inFrame got last) (hr : received (got ++ [x]) = .complete f) :
    exec (.receiveByte x) s =
      exec (.unknownKind f.kind f.tag f.payload) (s.withLink { s.link with receiver := .hunting }) := by
  show event (State.receiveByte x) s = event (State.deliver f) (s.withLink { s.link with receiver := .hunting })
  rw [event_eq, State.receiveByte_complete (s := s.begin) hrec hr]
  rfl

/-! ## The gap timer (R167) -/

theorem State.gapExpired_inFrame {s : State} {got : List Byte} {last : Time} (h : s.link.receiver = .inFrame got last) :
    s.gapExpired = decide (100 ≤ (s.time - last).toNat) := by
  unfold State.gapExpired; rw [h]; rfl

theorem State.gapExpired_hunting {s : State} (h : s.link.receiver = .hunting) : s.gapExpired = false := by
  unfold State.gapExpired; rw [h]

theorem exec_gapTimerExpiry_idle {s : State} (hset : s.link.settled) (h : s.gapExpired = false) :
    exec .gapTimerExpiry s = .next s.begin :=
  event_unchanged (if_neg (show ¬ s.begin.gapExpired = true from Bool.not_eq_true _ ▸ h)) hset

theorem exec_gapTimerExpiry_due {s : State} (hset : s.link.settled) (h : s.gapExpired = true) :
    exec .gapTimerExpiry s = .next (s.begin.withLink { s.link.faulted with receiver := .hunting }) :=
  event_settled (if_pos (show s.begin.gapExpired = true from h)) (Link.settled_faulted (l := s.link) hset)

/-- Settles O5: a byte by the receiver's state and `received`, the gap timer by the time since the last byte. -/
theorem receiverServed : Obligations.ReceiverServed := by
  unfold Obligations.ReceiverServed
  refine ⟨fun x s hset => ⟨fun hrec hx => ?_, fun hrec hx => ?_, fun got last hrec => ?_⟩,
    fun s hset => ⟨fun got last hrec hgap => ?_, fun got last hrec hgap => ?_, fun hrec => ?_⟩⟩
  · exact event_unchanged ((State.receiveByte_hunting (s := s.begin) hrec x).trans (if_neg hx)) hset
  · exact event_settled ((State.receiveByte_hunting (s := s.begin) hrec x).trans (if_pos hx)) hset
  · intro g n
    split
    next hlong => exact exec_receiveByte_error hset hrec (Or.inl (received_tooLong hlong))
    next hlong =>
      split
      next hwhole =>
        have hr := received_whole hlong hwhole
        split
        next hcrc => exact exec_receiveByte_complete hrec (hr.trans (if_pos hcrc))
        next hcrc => exact exec_receiveByte_error hset hrec (Or.inr (hr.trans (if_neg hcrc)))
      next hwhole => exact exec_receiveByte_more hset hrec (received_more hlong hwhole)
  · exact exec_gapTimerExpiry_due hset ((State.gapExpired_inFrame hrec).trans (decide_eq_true hgap))
  · exact exec_gapTimerExpiry_idle hset
      ((State.gapExpired_inFrame hrec).trans (decide_eq_false (Nat.not_le.2 hgap)))
  · exact exec_gapTimerExpiry_idle hset (State.gapExpired_hunting hrec)

end Sys2Proof.Machine
end

section
/-! A frame's bytes (R165, R166, R177): O4. -/

namespace Sys2Proof.Machine

/-! ## The bytes -/

theorem leBytes_two_eq (v : Nat) : leBytes 2 v = [BitVec.ofNat 8 v, BitVec.ofNat 8 (v / 256)] := by
  have hlow : ∀ u : Nat, BitVec.ofNat 8 (u % 256) = BitVec.ofNat 8 u := fun u => BitVec.eq_of_toNat_eq (by simp)
  simp only [leBytes, hlow]

theorem le_leBytes_two {v : Nat} (h : v < 65536) : le (leBytes 2 v) = v := by
  rw [leBytes_two_eq, le_two, BitVec.toNat_ofNat, BitVec.toNat_ofNat]
  omega

/-- The CRC runs over the data bits of the bytes, each byte most significant bit first (R166). -/
theorem crc_eq_foldl_bits (bs : List Byte) :
    crc bs = (bs.flatMap fun b => [7, 6, 5, 4, 3, 2, 1, 0].map fun i => b.getLsbD i).foldl crcBit 0xFFFF := by
  rw [List.foldl_flatMap]
  rfl

theorem crcBit_eq (r : BitVec 16) (d : Bool) :
    crcBit r d = if r.getLsbD 15 ≠ d then (r <<< 1) ^^^ 0x1021 else r <<< 1 :=
  (ite_not ..).symm

/-! ## The bytes after START, at the receiver -/

/-- The bytes of a frame after START (R177). -/
def Frame.body (f : Frame) : List Byte := f.covered ++ crcBytes f.covered

theorem Frame.bytes_eq (f : Frame) : f.bytes = 0xD5 :: f.body := rfl

theorem Frame.length_covered (f : Frame) : f.covered.length = f.payload.length + 4 := by
  simp only [Frame.covered, List.length_append, length_leBytes, List.length_cons, List.length_nil]
  omega

theorem Frame.length_body (f : Frame) : f.body.length = f.payload.length + 6 := by
  simp [Frame.body, Frame.length_covered, crcBytes]

/-- Two bytes or more of a frame show its payload's length. -/
theorem Frame.le_take_prefix {f : Frame} (hp : f.payload.length ≤ 1024) {g : List Byte} (hg : g <+: f.body)
    (h2 : 2 ≤ g.length) : le (g.take 2) = f.payload.length := by
  have htake : g.take 2 = f.body.take 2 := by
    rw [List.prefix_iff_eq_take.1 hg, List.take_take, Nat.min_eq_left h2]
  rw [htake]
  exact le_leBytes_two (by omega)

/-- Fewer bytes than all of a frame's amount to nothing yet. -/
theorem Frame.received_prefix {f : Frame} (hp : f.payload.length ≤ 1024) {g : List Byte} (hg : g <+: f.body)
    (hlt : g.length < f.body.length) : received g = .more := by
  rw [Frame.length_body] at hlt
  refine received_more (fun ⟨h2, hlong⟩ => ?_) (fun ⟨h2, hall⟩ => ?_)
  · rw [Frame.le_take_prefix hp hg h2.ge] at hlong
    omega
  · rw [Frame.le_take_prefix hp hg h2] at hall
    omega

/-- All the bytes of a frame after START amount to the frame. -/
theorem Frame.received_body {f : Frame} (hp : f.payload.length ≤ 1024) : received f.body = .complete f := by
  have hlen := f.length_body
  have hle : le (f.body.take 2) = f.payload.length := Frame.le_take_prefix hp (List.prefix_refl _) (by omega)
  have hcov := f.length_covered
  have htake : f.body.take (f.payload.length + 4) = f.covered := by rw [← hcov]; exact List.take_left
  have hdrop : f.body.drop (f.payload.length + 4) = crcBytes f.covered := by rw [← hcov]; exact List.drop_left
  have hpay : (f.body.drop 4).take f.payload.length = f.payload := List.take_left
  rw [received_whole (fun ⟨h2, _⟩ => by omega) (by omega), hle, htake, hdrop, if_pos rfl, hpay]
  rfl

/-! ## Byte by byte -/

/-- The state inside a frame, after the bytes `got`. -/
def State.inside (s : State) (got : List Byte) : State :=
  s.begin.withLink { s.link with receiver := .inFrame got s.time }

/-- The rest of a frame's bytes, fed inside the frame, deliver it. -/
theorem feedBytes_inside {f : Frame} {s : State} (hp : f.payload.length ≤ 1024) (hrec : s.link.receiver = .hunting)
    (hset : s.link.settled) (rest : List Byte) :
    ∀ got b, got ++ b :: rest = f.body →
      feedBytes (b :: rest) (s.inside got) = exec (.unknownKind f.kind f.tag f.payload) s := by
  induction rest with
  | nil =>
    intro got b hall
    have hexec := exec_receiveByte_complete (s := s.inside got) (x := b) rfl (hall ▸ Frame.received_body hp)
    have hhunting : (s.inside got).withLink { (s.inside got).link with receiver := .hunting } = s.begin := by
      unfold State.inside
      rw [← hrec]
      rfl
    rw [hhunting] at hexec
    unfold feedBytes
    rw [hexec]
    rfl
  | cons c rest ih =>
    intro got b hall
    have hmore : received (got ++ [b]) = .more :=
      Frame.received_prefix hp ⟨c :: rest, by simpa using hall⟩ (by rw [← hall]; simp)
    have hexec := exec_receiveByte_more (s := s.inside got) hset rfl hmore
    unfold feedBytes
    rw [hexec]
    exact ih (got ++ [b]) c (by simpa using hall)

/-- Settles O4: START opens the frame, and the bytes after it deliver the frame by `feedBytes_inside`. -/
theorem frameBytesDeliverFrame : Obligations.FrameBytesDeliverFrame := by
  unfold Obligations.FrameBytesDeliverFrame
  refine ⟨fun bs => ?_, by decide +kernel, fun f => ?_, fun f s hp hrec hset => ?_⟩
  · rw [crc_eq_foldl_bits]
    congr 1
    funext r d
    exact crcBit_eq r d
  · simp only [Frame.bytes, Frame.covered, leBytes_two_eq]
    rfl
  · have hstart : exec (.receiveByte 0xD5) s = .next (s.inside []) :=
      event_settled (State.receiveByte_hunting (s := s.begin) hrec 0xD5) hset
    obtain ⟨b, rest, hbody⟩ := List.exists_cons_of_length_pos (l := f.body) (by rw [f.length_body]; omega)
    rw [f.bytes_eq, hbody]
    unfold feedBytes
    rw [hstart]
    exact feedBytes_inside hp hrec hset rest [] b hbody.symm

end Sys2Proof.Machine
end
